-- ==== Sys2Proof/Word.lean ====
section
/-! DEFINITION. The plain words of the part: bytes, ticks, generations, link addresses (00_scope section 5). -/

namespace Sys2Proof

/-- One byte of a frame. -/
abbrev Byte := BitVec 8

/-- A two-byte field, sent most significant byte first (2.1). -/
abbrev Half := BitVec 16

/-- A tick of the common sample clock; arithmetic wraps modulo 65,536 (00_scope 5.2). -/
abbrev Tick := BitVec 16

/-- A commit generation, 0 to 65,535 (00_scope 5.3). -/
abbrev Gen := BitVec 16

/-- A link address, 0 to 63 (00_scope 5.4). -/
abbrev Addr := BitVec 6

/-- A set of event kinds: flag k is bit k (2.1.3). -/
abbrev KindSet := BitVec 16

/-- A set of groups, or of switched flags: flag g is bit g (2.1). -/
abbrev GroupSet := BitVec 8

/-- A group number, 0 to 7. -/
abbrev Group := Fin 8

/-- A channel index within a group, 0 to 7. -/
abbrev Chan := Fin 8

/-- A digitizer node: address 1 to 16 is `val + 1` (00_scope 5.4). -/
abbrev Node := Fin 16

/-- A window descriptor number of a group (4.1). -/
abbrev Desc := Fin 3

end Sys2Proof
end

