-- ==== Sys2Proof/Syntax.lean ====
section
/-! DEFINITION. The commands of the part: one constructor per row of spec/opcode_table.json. -/

namespace Sys2Proof

/-- The two link ports (chapter 1). -/
inductive Port where
  | s
  | c
  deriving DecidableEq, Repr

/-- The two reset marks a link control frame may carry (1.1, 1.7). -/
inductive Mark where
  | stationMark
  | sectionMark
  deriving DecidableEq, Repr

/-- One command: an event that reaches the part, whole and indivisible.
A received frame is given as all its bytes, check included.
A request row gives the source address, the request sequence and the parameter bytes of the envelope (2.1.3). -/
inductive Instr where
  | powerApplied (straps : BitVec 3)
  | resetNLow
  | resetNHigh
  | linkControlReceived (port : Port) (payload : List Byte)
  | badCheckFrame (port : Port)
  | lossOfSignal (port : Port)
  | phaseMinimumReached (port : Port)
  | phaseDeadline (port : Port)
  | settleTimerExpiry (port : Port)
  | retryAttempt (port : Port)
  | resetMarkReceived (port : Port) (mark : Mark)
  | markTransmissionEnd
  | maskTimerExpiry
  | portSFrameReceived (frame : List Byte)
  | staleTimeout (node : Node)
  | portCFrameReceived (frame : List Byte)
  | portCFrameEnd
  | portSFrameEnd
  | resetPartReplyEnd
  | evaluationEnd
  | eventSelection
  | commitTimeout
  | holdExpiry
  | writeStaging (source : Addr) (seq : Byte) (params : List Byte)
  | readTable (source : Addr) (seq : Byte) (params : List Byte)
  | copyActive (source : Addr) (seq : Byte) (params : List Byte)
  | commit (source : Addr) (seq : Byte) (params : List Byte)
  | hold (source : Addr) (seq : Byte) (params : List Byte)
  | release (source : Addr) (seq : Byte) (params : List Byte)
  | quiesceGroup (source : Addr) (seq : Byte) (params : List Byte)
  | resumeGroup (source : Addr) (seq : Byte) (params : List Byte)
  | readStatus (source : Addr) (seq : Byte) (params : List Byte)
  | readGroup (source : Addr) (seq : Byte) (params : List Byte)
  | readSources (source : Addr) (seq : Byte) (params : List Byte)
  | readEvents (source : Addr) (seq : Byte) (params : List Byte)
  | restartAnalysis (source : Addr) (seq : Byte) (params : List Byte)
  | resetPart (source : Addr) (seq : Byte) (params : List Byte)
  | ackEvents (source : Addr) (seq : Byte) (params : List Byte)
  | clearRaw (source : Addr) (seq : Byte) (params : List Byte)
  | setMask (source : Addr) (seq : Byte) (params : List Byte)
  | clearMask (source : Addr) (seq : Byte) (params : List Byte)
  | armSnapshot (source : Addr) (seq : Byte) (params : List Byte)
  | readSnapshot (source : Addr) (seq : Byte) (params : List Byte)
  | releaseSnapshot (source : Addr) (seq : Byte) (params : List Byte)
  deriving DecidableEq, Repr

end Sys2Proof
end

