-- ==== Sys2Proof/Config.lean ====
section
/-! DEFINITION. What is fixed for the part: capacities and timings (00_scope 5.6), and the free values. -/

namespace Sys2Proof.Config

/-- Time is counted in units of 50 ns, the finest step a rule names (R78). -/
def unitsPerUs : Nat := 20
/-- Units of time in a millisecond. -/
def unitsPerMs : Nat := 20000

/-- Minimum of each bring-up phase, 2 ms (1.2). -/
def phaseMinimum : Nat := 2 * unitsPerMs
/-- Deadline of a bring-up phase, 4 ms (R2 to R4). -/
def phaseDeadline : Nat := 4 * unitsPerMs
/-- Deadline of a SEEK retry attempt, 5 ms (R2). -/
def attemptDeadline : Nat := 5 * unitsPerMs
/-- CONFIRM settle, 100 us (R4). -/
def settleTime : Nat := 100 * unitsPerUs
/-- Interval of retry attempts, 250 ms (R8). -/
def retryInterval : Nat := 250 * unitsPerMs
/-- Reset mask timer, 100 ms (R16). -/
def maskTime : Nat := 100 * unitsPerMs

/-- Consecutive bad checks that take a port down (R6). -/
def linkLossCount : Nat := 8
/-- Frames the S-to-C forward buffer holds (R26). -/
def sToCFrames : Nat := 8
/-- Frames the C-to-S forward buffer holds (R28). -/
def cToSFrames : Nat := 4
/-- Entries the Evaluation Queue holds (R66). -/
def evalQueueEntries : Nat := 16
/-- Records the Report Queue holds (R152). -/
def reportRecords : Nat := 64
/-- Records held at which verdicts are refused (R152). -/
def verdictRoom : Nat := 60
/-- Entries of a detail stack (R127). -/
def stackEntries : Nat := 4
/-- Depth of the Sample Store in ticks (4.1). -/
def storeDepth : Nat := 640
/-- Full scale of a scaled channel sample (00_scope 5.3). -/
def fullScale : Int := 32767
/-- Where a saturating counter holds (00_scope 5.3). -/
def counterMax : Nat := 65535
/-- Entry states READ_GROUP carries at most (R189). -/
def readGroupRecords : Nat := 62
/-- Family code carried in PRESENCE (R10). -/
def familyCode : BitVec 16 := 0x4A12
/-- Revision carried in PRESENCE (R10). -/
def revision : BitVec 8 := 3

/-- FREE VALUE (log 23): which of several channels of one AC current kind is that phase of its bridge.
R85 speaks of the channel of each kind and does not say which when a group maps two of one kind.
The arguments are the group, the kind code and the number of such channels. -/
opaque phasePick : Nat → Nat → Nat → Nat

end Sys2Proof.Config
end

