-- ==== Sys2Proof/Machine/Types.lean ====
section
/-! DEFINITION. The data the blocks of the part keep: frames, tables, windows, records, events. -/

namespace Sys2Proof

/-- The other port (R15). -/
def Port.other : Port → Port
  | .s => .c
  | .c => .s

namespace Machine

/-- Link state of a port (1.1). -/
inductive LinkState where
  | down
  | seek
  | align
  | confirm
  | up
  deriving DecidableEq, Repr

/-- The control value of a link control frame (2.1.1). -/
inductive Control where
  | seek
  | align
  | confirm
  | up
  | mark (m : Mark)
  deriving DecidableEq, Repr

/-- Last reset cause (R12). -/
inductive ResetCause where
  | powerOn
  | resetPin
  | stationMarkS
  | stationMarkC
  | resetRequest
  deriving DecidableEq, Repr

/-- What a frame in transmission is, for the rules that tell frames apart at their end or cut-off. -/
inductive TxSort where
  /-- A phase frame or idle fill (R1). -/
  | control
  /-- A propagated reset mark (R15, R17). -/
  | mark
  | presence
  | forwarded
  /-- A report frame; set when its record is the DONE reply of a RESET_PART request (R17). -/
  | report (resetPartDone : Bool)
  | event
  deriving DecidableEq, Repr

/-- A frame in transmission: its sort and all its bytes, check included (log 27). -/
structure TxFrame where
  sort : TxSort
  bytes : List Byte
  deriving DecidableEq, Repr

/-- One link port (1.1). Timers count units of 50 ns; none is stopped. -/
structure PortState where
  link : LinkState
  phase : Option Nat
  early : Bool
  attempt : Bool
  settle : Option Nat
  retry : Option Nat
  badRun : Nat
  badCount : Nat
  tx : Option TxFrame
  deriving DecidableEq, Repr

/-- An accepted reset mark whose reset has not yet taken effect (R15). -/
structure MarkReset where
  mark : Mark
  arrival : Port
  deriving DecidableEq, Repr

/-- A source of the C-out Arbiter (R30). -/
inductive Source where
  | forward
  | report
  | event
  deriving DecidableEq, Repr

/-- State of a Source Table entry (3.1). -/
inductive SourceState where
  | silent
  | tracking
  | stale
  deriving DecidableEq, Repr

/-- One Source Table entry (3.1). -/
structure SourceEntry where
  state : SourceState
  expected : Option Byte
  timer : Option Nat
  missed : Nat
  duplicates : Nat
  outOfOrder : Nat
  deriving DecidableEq, Repr

/-- Channel kind (3.3). -/
inductive ChanKind where
  | dcVoltage
  | dcCurrent
  | acA1
  | acA2
  | acA3
  | acB1
  | acB2
  | acB3
  | acVoltageRef
  deriving DecidableEq, Repr

/-- Metric (2.1.6, 5.2). -/
inductive Metric where
  | amplitude
  | rms
  | mean
  | peakToPeak
  | rippleRatio
  | thd
  | phaseImbalance
  | bridgeBalance
  deriving DecidableEq, Repr

/-- A measure reference (2.1.6). -/
structure MeasureRef where
  chan : Chan
  metric : Metric
  order : Nat
  deriving DecidableEq, Repr

/-- A Channel Map entry (3.3). Gain and offset are signed 2-byte values. -/
structure MapEntry where
  valid : Bool
  node : Node
  slot : Fin 8
  group : Group
  chan : Chan
  kind : ChanKind
  gain : Int
  offset : Int
  deriving DecidableEq, Repr

/-- Conduction level (5.5 of 00_scope, R88). -/
inductive Level where
  | l1
  | l2
  | l3
  | l4
  deriving DecidableEq, Repr

/-- Verdict mode (R90). -/
inductive VerdictMode where
  | off
  | every
  | onChange
  deriving DecidableEq, Repr

/-- A Group Plan record (4.2). The lists hold the positions in use (2.1.6). -/
structure Plan where
  enabled : Bool
  refChan : Chan
  condChan : Chan
  level : Level
  band : Nat
  minLen : Nat
  maxLen : Nat
  allowance : Nat
  tolerance : Nat
  orders : List Nat
  mode : VerdictMode
  measures : List MeasureRef
  deriving DecidableEq, Repr

/-- Direction of a limit entry (6.1). -/
inductive Direction where
  | above
  | below
  deriving DecidableEq, Repr

/-- A Limit Table entry (6.1). -/
structure LimitEntry where
  valid : Bool
  group : Group
  ref : MeasureRef
  direction : Direction
  limit : Nat
  hysteresis : Nat
  raiseCount : Nat
  clearCount : Nat
  flag : Fin 16
  deriving DecidableEq, Repr

/-- Severity of a diagnosis (7.1). -/
inductive Severity where
  | advisory
  | alarm
  | tripRequest
  deriving DecidableEq, Repr

/-- A Signature Table entry (7.1). -/
structure Signature where
  valid : Bool
  groups : GroupSet
  pattern : Half
  care : Half
  code : Byte
  severity : Severity
  deriving DecidableEq, Repr

/-- Send mode of an event kind (R133). -/
inductive SendMode where
  | polled
  | list
  deriving DecidableEq, Repr

/-- An Event Table entry (R133). -/
structure EventEntry where
  route : Fin 4
  mode : SendMode
  deriving DecidableEq, Repr

/-- A Route Table entry (R134). -/
structure Route where
  valid : Bool
  dest : Addr
  deriving DecidableEq, Repr

/-- The Part Settings record (R172). -/
structure Settings where
  partAddr : Addr
  reportDest : Addr
  eventDest : Addr
  eventTable : Bool
  staleMs : Nat
  commitMs : Nat
  acceptS : Bool
  acceptC : Bool
  portSEnable : Bool
  deriving DecidableEq, Repr

/-- One bank: a copy of the seven loaded tables (10.1). -/
structure Bank where
  channelMap : Vector MapEntry 64
  plans : Vector Plan 8
  limits : Vector LimitEntry 96
  signatures : Vector Signature 32
  events : Vector EventEntry 16
  routes : Vector Route 4
  settings : Settings
  deriving DecidableEq, Repr

/-- The seven loaded tables (2.1.3). -/
inductive TableId where
  | channelMap
  | groupPlan
  | limit
  | signature
  | eventTable
  | route
  | partSettings
  deriving DecidableEq, Repr

/-- State of a Group Context (4.1). -/
inductive GroupState where
  | off
  | seeking
  | tracking
  | blind
  | quiescing
  | quiesced
  deriving DecidableEq, Repr

/-- State of a window descriptor (4.1). -/
inductive DescState where
  | free
  | opened
  | settling
  | queued
  | evaluating
  deriving DecidableEq, Repr

/-- A window descriptor (4.1). -/
structure Descriptor where
  state : DescState
  number : Half
  start : Tick
  stop : Option Tick
  len : Option Nat
  tag : Gen
  received : Vector Nat 8
  held : Bool
  deriving DecidableEq, Repr

/-- One channel of a Sample Store: the cells that hold a sample, each with its tick tag and scaled value (4.1). -/
abbrev Cells := List (Tick × Int)

/-- A Group Context (4.1). -/
structure GroupCtx where
  state : GroupState
  gen : Gen
  counter : Half
  rejects : Nat
  arm : Bool
  lastRef : Option (Tick × Int)
  frontiers : Vector (Option Tick) 8
  late : Nat
  store : Vector Cells 8
  descs : Vector Descriptor 3
  deriving DecidableEq, Repr

/-- A window in the Evaluation Queue or the engine: its group and descriptor number. -/
structure WinRef where
  group : Group
  desc : Desc
  deriving DecidableEq, Repr

/-- The evaluation in progress: the current descriptor, the duration fixed at its start, the timer (5.1, R78). -/
structure Evaluation where
  win : WinRef
  duration : Nat
  elapsed : Nat
  deriving DecidableEq, Repr

/-- Outcome of a window (R88). -/
inductive WinOutcome where
  | checked
  | idle
  | incomplete
  | stalePlan
  deriving DecidableEq, Repr

/-- State of a limit entry (6.2). -/
inductive LimitState where
  | clear
  | rising (k : Nat)
  | exceeded
  | falling (k : Nat)
  deriving DecidableEq, Repr

/-- Class of a stepped value (R95). -/
inductive LimitClass where
  | over
  | band
  | under
  deriving DecidableEq, Repr

/-- A diagnosis held by a latch (7.2); a clear latch holds none. -/
structure Diagnosis where
  code : Byte
  severity : Severity
  index : Nat
  window : Half
  deriving DecidableEq, Repr

/-- The sixteen event kinds (8.2). -/
inductive EventKind where
  | limitRaised
  | limitCleared
  | diagnosisSet
  | diagnosisCleared
  | sourceGap
  | sourceLost
  | groupBlind
  | windowRejected
  | evaluationOverrun
  | forwardOverrun
  | reportDrop
  | linkDown
  | commitForced
  | detailOverrun
  | malformedFrame
  | resetMarkRefused
  deriving DecidableEq, Repr

/-- The six detail kinds, each with a stack (R127). -/
inductive DetailKind where
  | limitRaised
  | limitCleared
  | diagnosisSet
  | diagnosisCleared
  | sourceGap
  | windowRejected
  deriving DecidableEq, Repr

/-- A detail entry (R128). -/
inductive Detail where
  | limit (group : Group) (entry : Nat) (window : Half) (value : Int)
  | diagnosisSet (group : Group) (code : Byte) (severity : Severity) (index : Nat) (window : Half)
  | diagnosisCleared (group : Group) (code : Byte) (window : Half)
  | sourceGap (node : Node) (seq : Byte) (missed : Nat)
  | windowRejected (group : Group) (window : Half)
  deriving DecidableEq, Repr

/-- The frame in the output slot (R140). -/
structure SlotFrame where
  kind : EventKind
  detail : Option Detail
  remaining : Nat
  dest : Addr
  mode : SendMode
  deriving DecidableEq, Repr

/-- The six detail stacks, head first (R127). -/
structure Stacks where
  limitRaised : List Detail
  limitCleared : List Detail
  diagnosisSet : List Detail
  diagnosisCleared : List Detail
  sourceGap : List Detail
  windowRejected : List Detail
  deriving DecidableEq, Repr

/-- The Event Dispatcher (8.1). -/
structure Dispatcher where
  pending : KindSet
  fifos : Stacks
  mask : KindSet
  raw : KindSet
  status : KindSet
  slot : Option SlotFrame
  last : EventKind
  deriving DecidableEq, Repr

/-- A measure carried by a verdict: the reference, and its value when available (R91). -/
structure Measure where
  ref : MeasureRef
  value : Option Int
  deriving DecidableEq, Repr

/-- A VERDICT record (R91); the drop count is present only when nonzero (R154). -/
structure Verdict where
  group : Group
  window : Half
  start : Tick
  len : Nat
  outcome : WinOutcome
  vector : Half
  code : Byte
  trip : Bool
  dropped : Option Nat
  measures : List Measure
  deriving DecidableEq, Repr

/-- Reply statuses (R169). -/
inductive Status where
  | done
  | accepted
  | busy
  | commitPending
  | badEntry
  | inconsistent
  | badRequest
  | refused
  | notReady
  deriving DecidableEq, Repr

/-- A REPLY record (2.1.4). -/
structure Reply where
  seq : Byte
  code : Byte
  status : Status
  data : List Byte
  deriving DecidableEq, Repr

/-- Cause of a HOLD_ENDED marker (R184, R185). -/
inductive HoldCause where
  | request
  | expiry
  deriving DecidableEq, Repr

/-- A MARKER record (2.1.4). -/
inductive Marker where
  | holdEffective
  | holdEnded (cause : HoldCause) (neverEffective : Bool)
  | commitDone (gen : Gen) (forced : Nat)
  | groupQuiesced (group : Group)
  | snapshot (ready : Bool)
  deriving DecidableEq, Repr

/-- A Report Queue record (9.2). -/
inductive Record where
  | verdict (v : Verdict)
  | reply (r : Reply)
  | marker (m : Marker)
  deriving DecidableEq, Repr

/-- A record held in the queue, with the destination fixed at its entry (R151, R160). -/
structure Held where
  dest : Addr
  record : Record
  deriving DecidableEq, Repr

/-- An item of the waiting order with the record its owner keeps for it (9.1). -/
inductive Waiting where
  | reply (dest : Addr) (r : Reply)
  | marker (m : Marker)
  deriving DecidableEq, Repr

/-- The Report Queue (9.1). -/
structure ReportQueue where
  records : List Held
  dropCount : Nat
  waiting : List Waiting
  deriving DecidableEq, Repr

/-- A request in the request buffer (10.1). -/
structure Request where
  source : Addr
  seq : Byte
  code : Byte
  params : List Byte
  deriving DecidableEq, Repr

/-- Commit control while PENDING (10.1); IDLE holds none of it.
The timer is none once it has stopped at its expiry (R180). -/
structure Commit where
  stagingGen : Gen
  switched : GroupSet
  timer : Option Nat
  timeoutMs : Nat
  forced : Nat
  deriving DecidableEq, Repr

/-- Hold control in HOLDING or EFFECTIVE (10.1); FREE holds none of it. -/
structure Hold where
  effective : Bool
  elapsed : Nat
  limitMs : Nat
  deriving DecidableEq, Repr

/-- Snapshot triggers (11.1). -/
inductive Trigger where
  | nextWindow
  | nextEven
  | nextOdd
  | onDiagnosis
  | onLimit
  deriving DecidableEq, Repr

/-- What an arming records (R196). -/
structure Arming where
  group : Group
  trigger : Trigger
  chans : List Chan
  number : Half
  deriving DecidableEq, Repr

/-- The capture header (11.1). -/
structure CaptureHeader where
  window : Half
  start : Tick
  len : Nat
  outcome : WinOutcome
  tag : Gen
  deriving DecidableEq, Repr

/-- Snapshot state with the fields present in it (11.1). -/
inductive SnapState where
  | empty
  | armed (a : Arming)
  | ready (a : Arming) (h : CaptureHeader)
  deriving DecidableEq, Repr

/-- One row of the Snapshot Buffer: four cells, none where missing (11.1). -/
abbrev SnapRow := Vector (Option Int) 4

/-- Board pins of the part (00_scope 3): the strap levels, the cause a held reset will record (none while RESET_N is
high and the part runs), and whether ALERT_N is asserted. -/
structure Pins where
  straps : BitVec 3
  held : Option ResetCause
  alert : Bool
  deriving DecidableEq, Repr

/-- Both ports and what they share (1.1, R15). -/
structure Links where
  s : PortState
  c : PortState
  mask : Option Nat
  cause : ResetCause
  presenceOwed : Bool
  markReset : Option MarkReset
  refusalDeferred : Bool
  deriving DecidableEq, Repr

/-- The forward buffers and the C-out Arbiter (2.5, 2.6). -/
structure Forwarding where
  sToC : List (List Byte)
  cToS : List (List Byte)
  lastGranted : Source
  txSeq : Byte
  deriving DecidableEq, Repr

/-- The Window Engine, its Evaluation Queue, and the Harmonic Engine (4.1, 5.1). -/
structure Analysis where
  groups : Vector GroupCtx 8
  queue : List WinRef
  engine : Option Evaluation
  lastVerdicts : Vector (Option (Half × Byte)) 8
  deriving DecidableEq, Repr

/-- The Check Unit (6.2, 6.4). -/
structure CheckUnit where
  active : Vector LimitState 96
  staging : Option (Vector LimitState 96)
  vectors : Vector Half 8
  deriving DecidableEq, Repr

/-- The Management Unit (10.1); `restartMark` is set while a propagating restart waits for its mark (R191). -/
structure Management where
  request : Option Request
  restartMark : Bool
  active : Bank
  staging : Bank
  activeGen : Gen
  commit : Option Commit
  hold : Option Hold
  deriving DecidableEq, Repr

/-- The Snapshot Unit (11.1). -/
structure SnapshotUnit where
  state : SnapState
  buffer : Vector SnapRow 192
  deriving DecidableEq, Repr

end Machine
end Sys2Proof
end

