-- ==== Sys2Proof/Machine/Operands.lean ====
section
/-! DEFINITION. Operand forms: byte fields, the frame check, headers and payloads, and the encodings of frames,
records and table entries (chapter 2, section 2.1). -/

namespace Sys2Proof.Machine

/-! ## Fixed-size rows -/

/-- A fixed-size row with a function applied to each entry. -/
def vmap {α β : Type} {n : Nat} (f : α → β) (v : Vector α n) : Vector β n :=
  ⟨⟨v.toList.map f⟩, by simp⟩

/-- Two rows of one size combined entry by entry. -/
def vzip {α β γ : Type} {n : Nat} (f : α → β → γ) (v : Vector α n) (w : Vector β n) : Vector γ n :=
  ⟨⟨List.zipWith f v.toList w.toList⟩, by simp⟩

/-- The row whose entry i is `f i`. -/
def vtab {α : Type} (n : Nat) (f : Nat → α) : Vector α n :=
  ⟨⟨(List.range n).map f⟩, by simp⟩

/-- The eight groups, or the eight channel indices, in ascending order. -/
def all8 : List (Fin 8) := [0, 1, 2, 3, 4, 5, 6, 7]

/-- The three descriptors of a group in ascending order. -/
def all3 : List Desc := [0, 1, 2]

/-! ## Byte fields (2.1: most significant byte first, signed fields two's complement) -/

/-- One byte of a number below 256. -/
def byte (n : Nat) : Byte := BitVec.ofNat 8 n

/-- A yes/no field. -/
def flagByte (b : Bool) : Byte := if b then 1 else 0

/-- Two bytes of a 16-bit field. -/
def be16 (x : Half) : List Byte := [x.extractLsb' 8 8, x.extractLsb' 0 8]

/-- Two bytes of an unsigned number below 65,536. -/
def beNat (n : Nat) : List Byte := be16 (BitVec.ofNat 16 n)

/-- Two bytes of a signed value. -/
def beInt (v : Int) : List Byte := be16 (BitVec.ofInt 16 v)

/-- A 16-bit field read from its two bytes. -/
def half (hi lo : Byte) : Half := hi ++ lo

/-- An address read from the low six bits of its byte. -/
def addrOf (b : Byte) : Addr := b.extractLsb' 0 6

/-- An address as a byte. -/
def addrByte (a : Addr) : Byte := a.setWidth 8

/-- A yes/no field read, when it is 0 or 1. -/
def flagOf (b : Byte) : Option Bool :=
  if b = 0 then some false else if b = 1 then some true else none

/-- A number below 8 read (group, channel index, slot). -/
def fin8Of (b : Byte) : Option (Fin 8) :=
  if h : b.toNat < 8 then some ⟨b.toNat, h⟩ else none

/-- A node address 1 to 16 read. -/
def nodeOf (b : Byte) : Option Node :=
  if h : 1 ≤ b.toNat ∧ b.toNat ≤ 16 then some ⟨b.toNat - 1, by omega⟩ else none

/-- The address of a node. -/
def nodeAddr (n : Node) : Nat := n.val + 1

/-- A saturating counter increased by k (00_scope 5.3). -/
def satAdd (n k : Nat) : Nat := min Config.counterMax (n + k)

/-! ## Tick arithmetic (00_scope 5.2) -/

/-- Tick t is at or after tick u. -/
def atOrAfter (t u : Tick) : Bool := (t - u).toNat < 32768

/-- Tick t is after tick u. -/
def after (t u : Tick) : Bool := atOrAfter t u && t != u

/-- Tick t is before tick u. -/
def before (t u : Tick) : Bool := after u t

/-- Tick t is more than k ticks after tick u (log 21 for the distance 32,768, neither after nor before). -/
def moreThanAfter (k : Nat) (t u : Tick) : Bool := !before t u && decide (k < (t - u).toNat)

/-! ## The check (R18) -/

/-- One data bit into the check register: compare with the top bit, shift, exclusive-or 0x1021 when they differ. -/
def checkBit (r : Half) (bit : Bool) : Half :=
  let sh := r <<< 1
  if r.msb != bit then sh ^^^ 0x1021#16 else sh

/-- One byte into the check register, most significant bit first. -/
def checkByte (r : Half) (b : Byte) : Half :=
  [7, 6, 5, 4, 3, 2, 1, 0].foldl (fun r i => checkBit r (b.getLsbD i)) r

/-- The computed check of the given bytes, register preset to 0xFFFF (R18). -/
def check (bs : List Byte) : Half := bs.foldl checkByte 0xFFFF#16

/-- The bytes a check is computed over: all but the last two. -/
def checkedPart (frame : List Byte) : List Byte := frame.take (frame.length - 2)

/-- A received frame has a good check (R18); one of fewer than 3 bytes has a bad one. -/
def goodCheck (frame : List Byte) : Bool :=
  decide (3 ≤ frame.length) && (be16 (check (checkedPart frame)) == frame.drop (frame.length - 2))

/-! ## Headers (2.1.1) -/

/-- Byte i of a frame, 0 beyond its end. -/
def byteAt (frame : List Byte) (i : Nat) : Byte := frame.getD i 0

/-- The kind byte. -/
def kindByte (frame : List Byte) : Byte := byteAt frame 0
/-- The destination field. -/
def destByte (frame : List Byte) : Byte := byteAt frame 1
/-- The source field. -/
def sourceByte (frame : List Byte) : Byte := byteAt frame 2
/-- The header sequence. -/
def seqByte (frame : List Byte) : Byte := byteAt frame 3
/-- The length field. -/
def lengthField (frame : List Byte) : Nat := (half (byteAt frame 4) (byteAt frame 5)).toNat
/-- The payload of a frame with a well-formed header. -/
def payload (frame : List Byte) : List Byte := (frame.drop 6).take (frame.length - 8)

/-- A good frame has a malformed header (R19). -/
def malformedHeader (frame : List Byte) : Bool :=
  decide (frame.length < 8) || decide (240 < lengthField frame)
    || decide (lengthField frame ≠ frame.length - 8)
    || decide (63 < (destByte frame).toNat) || decide (63 < (sourceByte frame).toNat)

/-- LINK_CONTROL kind code. -/
def kindLinkControl : Byte := 0x01
/-- SAMPLE kind code. -/
def kindSample : Byte := 0x10
/-- REQUEST kind code. -/
def kindRequest : Byte := 0x20
/-- REPORT kind code. -/
def kindReport : Byte := 0x21
/-- EVENT kind code. -/
def kindEvent : Byte := 0x22
/-- PRESENCE kind code. -/
def kindPresence : Byte := 0x23

/-- A frame built from its fields, with its check (R18, R20). -/
def buildFrame (kind : Byte) (dest src : Addr) (seq : Byte) (body : List Byte) : List Byte :=
  let bs := kind :: addrByte dest :: addrByte src :: seq :: (beNat body.length ++ body)
  bs ++ be16 (check bs)

/-! ## Link control (2.1.1) -/

/-- The control byte. -/
def Control.code : Control → Byte
  | .seek => 0x01
  | .align => 0x02
  | .confirm => 0x03
  | .up => 0x04
  | .mark .stationMark => 0x10
  | .mark .sectionMark => 0x11

/-- The control value of a link control payload; none where R19 calls the frame malformed. -/
def controlOf : List Byte → Option Control
  | [b] =>
    if b = 0x01 then some .seek
    else if b = 0x02 then some .align
    else if b = 0x03 then some .confirm
    else if b = 0x04 then some .up
    else if b = 0x10 then some (.mark .stationMark)
    else if b = 0x11 then some (.mark .sectionMark)
    else none
  | _ => none

/-- A link control frame of the part: destination 63, sequence 0 (R20). -/
def controlFrame (src : Addr) (v : Control) : List Byte :=
  buildFrame kindLinkControl 63 src 0 [v.code]

/-! ## Sample payloads (2.1.2) -/

/-- A sample payload is well formed (R22). -/
def sampleWellFormed (p : List Byte) : Bool :=
  let t := (byteAt p 2).toNat
  let n := (byteAt p 3).toNat
  decide (4 ≤ p.length) && decide (1 ≤ t ∧ t ≤ 4) && decide (1 ≤ n ∧ n ≤ 8)
    && decide (p.length = 4 + 2 * t * n)

/-- The first tick of a sample payload. -/
def firstTick (p : List Byte) : Tick := half (byteAt p 0) (byteAt p 1)
/-- The tick count. -/
def tickCount (p : List Byte) : Nat := (byteAt p 2).toNat
/-- The slot count. -/
def slotCount (p : List Byte) : Nat := (byteAt p 3).toNat
/-- The raw value for tick index i and slot s. -/
def rawValue (p : List Byte) (i s : Nat) : Int :=
  let o := 4 + 2 * (i * slotCount p + s)
  (half (byteAt p o) (byteAt p (o + 1))).toInt

/-! ## Codes of enumerated values (2.1) -/

/-- Link state code (R188). -/
def LinkState.code : LinkState → Byte
  | .down => 0
  | .seek => 1
  | .align => 2
  | .confirm => 3
  | .up => 4

/-- Reset cause code (2.1.1). -/
def ResetCause.code : ResetCause → Byte
  | .powerOn => 1
  | .resetPin => 2
  | .stationMarkS => 3
  | .stationMarkC => 4
  | .resetRequest => 5

/-- Source Table state code (R42). -/
def SourceState.code : SourceState → Byte
  | .silent => 0
  | .tracking => 1
  | .stale => 2

/-- Group state code (R188). -/
def GroupState.code : GroupState → Byte
  | .off => 0
  | .seeking => 1
  | .tracking => 2
  | .blind => 3
  | .quiescing => 4
  | .quiesced => 5

/-- Descriptor state code (R189). -/
def DescState.code : DescState → Byte
  | .free => 0
  | .opened => 1
  | .settling => 2
  | .queued => 3
  | .evaluating => 4

/-- Outcome code (2.1.4). -/
def WinOutcome.code : WinOutcome → Byte
  | .checked => 1
  | .idle => 2
  | .incomplete => 3
  | .stalePlan => 4

/-- Severity code (7.1). -/
def Severity.code : Severity → Byte
  | .advisory => 1
  | .alarm => 2
  | .tripRequest => 3

/-- Severity from its code. -/
def Severity.ofByte (b : Byte) : Option Severity :=
  if b = 1 then some .advisory else if b = 2 then some .alarm else if b = 3 then some .tripRequest else none

/-- Channel kind code (2.1.6). -/
def ChanKind.code : ChanKind → Byte
  | .dcVoltage => 1
  | .dcCurrent => 2
  | .acA1 => 3
  | .acA2 => 4
  | .acA3 => 5
  | .acB1 => 6
  | .acB2 => 7
  | .acB3 => 8
  | .acVoltageRef => 9

/-- Channel kind from its code. -/
def ChanKind.ofByte (b : Byte) : Option ChanKind :=
  [ChanKind.dcVoltage, .dcCurrent, .acA1, .acA2, .acA3, .acB1, .acB2, .acB3, .acVoltageRef].find?
    (fun k => k.code == b)

/-- Metric code (2.1.6). -/
def Metric.code : Metric → Byte
  | .amplitude => 1
  | .rms => 2
  | .mean => 3
  | .peakToPeak => 4
  | .rippleRatio => 5
  | .thd => 6
  | .phaseImbalance => 7
  | .bridgeBalance => 8

/-- Metric from its code. -/
def Metric.ofByte (b : Byte) : Option Metric :=
  [Metric.amplitude, .rms, .mean, .peakToPeak, .rippleRatio, .thd, .phaseImbalance, .bridgeBalance].find?
    (fun k => k.code == b)

/-- Conduction level code (2.1.6). -/
def Level.code : Level → Byte
  | .l1 => 1
  | .l2 => 2
  | .l3 => 3
  | .l4 => 4

/-- Conduction level from its code. -/
def Level.ofByte (b : Byte) : Option Level :=
  if b = 1 then some .l1 else if b = 2 then some .l2 else if b = 3 then some .l3
  else if b = 4 then some .l4 else none

/-- Verdict mode code (2.1.6). -/
def VerdictMode.code : VerdictMode → Byte
  | .off => 0
  | .every => 1
  | .onChange => 2

/-- Verdict mode from its code. -/
def VerdictMode.ofByte (b : Byte) : Option VerdictMode :=
  if b = 0 then some .off else if b = 1 then some .every else if b = 2 then some .onChange else none

/-- Direction code (2.1.6). -/
def Direction.code : Direction → Byte
  | .above => 1
  | .below => 2

/-- Direction from its code. -/
def Direction.ofByte (b : Byte) : Option Direction :=
  if b = 1 then some .above else if b = 2 then some .below else none

/-- Send mode code (2.1.6). -/
def SendMode.code : SendMode → Byte
  | .polled => 1
  | .list => 2

/-- Send mode from its code. -/
def SendMode.ofByte (b : Byte) : Option SendMode :=
  if b = 1 then some .polled else if b = 2 then some .list else none

/-- Reply status code (2.1.4). -/
def Status.code : Status → Byte
  | .done => 0
  | .accepted => 1
  | .busy => 2
  | .commitPending => 3
  | .badEntry => 4
  | .inconsistent => 5
  | .badRequest => 6
  | .refused => 7
  | .notReady => 8

/-- Snapshot trigger code (2.1.3). -/
def Trigger.code : Trigger → Byte
  | .nextWindow => 1
  | .nextEven => 2
  | .nextOdd => 3
  | .onDiagnosis => 4
  | .onLimit => 5

/-- Snapshot trigger from its code. -/
def Trigger.ofByte (b : Byte) : Option Trigger :=
  [Trigger.nextWindow, .nextEven, .nextOdd, .onDiagnosis, .onLimit].find? (fun k => k.code == b)

/-- Event kind number (8.2). -/
def EventKind.code : EventKind → Nat
  | .limitRaised => 0
  | .limitCleared => 1
  | .diagnosisSet => 2
  | .diagnosisCleared => 3
  | .sourceGap => 4
  | .sourceLost => 5
  | .groupBlind => 6
  | .windowRejected => 7
  | .evaluationOverrun => 8
  | .forwardOverrun => 9
  | .reportDrop => 10
  | .linkDown => 11
  | .commitForced => 12
  | .detailOverrun => 13
  | .malformedFrame => 14
  | .resetMarkRefused => 15

/-- The sixteen kinds in ascending number. -/
def allKinds : List EventKind :=
  [.limitRaised, .limitCleared, .diagnosisSet, .diagnosisCleared, .sourceGap, .sourceLost, .groupBlind,
   .windowRejected, .evaluationOverrun, .forwardOverrun, .reportDrop, .linkDown, .commitForced,
   .detailOverrun, .malformedFrame, .resetMarkRefused]

/-- The kind a detail kind is (R127). -/
def DetailKind.kind : DetailKind → EventKind
  | .limitRaised => .limitRaised
  | .limitCleared => .limitCleared
  | .diagnosisSet => .diagnosisSet
  | .diagnosisCleared => .diagnosisCleared
  | .sourceGap => .sourceGap
  | .windowRejected => .windowRejected

/-- Kinds 0, 1, 2, 3, 4 and 7 are the detail kinds (R127). -/
def EventKind.detailKind : EventKind → Option DetailKind
  | .limitRaised => some .limitRaised
  | .limitCleared => some .limitCleared
  | .diagnosisSet => some .diagnosisSet
  | .diagnosisCleared => some .diagnosisCleared
  | .sourceGap => some .sourceGap
  | .windowRejected => some .windowRejected
  | _ => none

/-- Table id code (2.1.3). -/
def TableId.code : TableId → Byte
  | .channelMap => 1
  | .groupPlan => 2
  | .limit => 3
  | .signature => 4
  | .eventTable => 5
  | .route => 6
  | .partSettings => 7

/-- Table from its id code. -/
def TableId.ofByte (b : Byte) : Option TableId :=
  [TableId.channelMap, .groupPlan, .limit, .signature, .eventTable, .route, .partSettings].find?
    (fun k => k.code == b)

/-- Entries of a table (10.1). -/
def TableId.size : TableId → Nat
  | .channelMap => 64
  | .groupPlan => 8
  | .limit => 96
  | .signature => 32
  | .eventTable => 16
  | .route => 4
  | .partSettings => 1

/-- Bytes of an entry of a table (2.1.6). -/
def TableId.entrySize : TableId → Nat
  | .channelMap => 10
  | .groupPlan => 53
  | .limit => 13
  | .signature => 8
  | .eventTable => 2
  | .route => 2
  | .partSettings => 10

/-! ## Table entries (2.1.6): encoding, and reading with the range check of the entry's own rule -/

/-- A measure reference as its three bytes. -/
def MeasureRef.encode (m : MeasureRef) : List Byte := [byte m.chan.val, m.metric.code, byte m.order]

/-- A measure reference read with its range check: channel index 0 to 7, metric 1 to 8, order 1 to 48 for AMPLITUDE
and 0 otherwise (R53, R92). -/
def MeasureRef.read (c m o : Byte) : Option MeasureRef := do
  let chan ← fin8Of c
  let metric ← Metric.ofByte m
  let ok := if metric = .amplitude then decide (1 ≤ o.toNat ∧ o.toNat ≤ 48) else decide (o = 0)
  if ok then some ⟨chan, metric, o.toNat⟩ else none

/-- A Channel Map entry as its 10 bytes. -/
def MapEntry.encode (e : MapEntry) : List Byte :=
  [flagByte e.valid, byte (nodeAddr e.node), byte e.slot.val, byte e.group.val, byte e.chan.val, e.kind.code]
    ++ beInt e.gain ++ beInt e.offset

/-- A Channel Map entry read with the range check of R44. -/
def MapEntry.read : List Byte → Option MapEntry
  | [v, n, sl, g, c, k, g1, g0, o1, o0] => do
    let valid ← flagOf v
    let node ← nodeOf n
    let slot ← fin8Of sl
    let group ← fin8Of g
    let chan ← fin8Of c
    let kind ← ChanKind.ofByte k
    some ⟨valid, node, slot, group, chan, kind, (half g1 g0).toInt, (half o1 o0).toInt⟩
  | _ => none

/-- The default Channel Map entry (R44). -/
def MapEntry.default : MapEntry := ⟨false, 0, 0, 0, 0, .dcVoltage, 4096, 0⟩

/-- The measure references of a list of bytes, three each, up to the given number. -/
def readMeasures : Nat → List Byte → Option (List MeasureRef)
  | 0, _ => some []
  | n + 1, c :: m :: o :: rest => do
    let r ← MeasureRef.read c m o
    let rs ← readMeasures n rest
    some (r :: rs)
  | _ + 1, _ => none

/-- Bytes padded with zeros to a length. -/
def padTo (n : Nat) (bs : List Byte) : List Byte := bs ++ List.replicate (n - bs.length) 0

/-- A Group Plan record as its 53 bytes; unused positions are 0 (2.1.6). -/
def Plan.encode (p : Plan) : List Byte :=
  [flagByte p.enabled, byte p.refChan.val, byte p.condChan.val, p.level.code] ++ beNat p.band
    ++ [byte p.minLen, byte p.maxLen, byte p.allowance, byte p.tolerance, byte p.orders.length]
    ++ padTo 16 (p.orders.map byte)
    ++ [p.mode.code, byte p.measures.length] ++ padTo 24 (p.measures.flatMap MeasureRef.encode)

/-- A Group Plan record read with the range check of R53; positions beyond the counts are not kept (2.1.6). -/
def Plan.read : List Byte → Option Plan
  | en :: rc :: cc :: lv :: b1 :: b0 :: mn :: mx :: al :: tl :: oc :: rest => do
    let enabled ← flagOf en
    let refChan ← fin8Of rc
    let condChan ← fin8Of cc
    let level ← Level.ofByte lv
    let mode ← VerdictMode.ofByte (byteAt rest 16)
    let count := (byteAt rest 17).toNat
    let measures ← readMeasures count (rest.drop 18)
    let band := (half b1 b0).toNat
    let ok := decide (rest.length = 42) && decide (band ≤ 4095)
      && decide (96 ≤ mn.toNat ∧ mn.toNat ≤ 192) && decide (96 ≤ mx.toNat ∧ mx.toNat ≤ 192)
      && decide (mn.toNat ≤ mx.toNat) && decide (8 ≤ al.toNat ∧ al.toNat ≤ 64) && decide (tl.toNat ≤ 15)
      && decide (1 ≤ oc.toNat ∧ oc.toNat ≤ 16) && decide (count ≤ 8)
    if ok then
      some ⟨enabled, refChan, condChan, level, band, mn.toNat, mx.toNat, al.toNat, tl.toNat,
        (rest.take oc.toNat).map BitVec.toNat, mode, measures⟩
    else none
  | _ => none

/-- The default Group Plan (R53). -/
def Plan.default : Plan := ⟨false, 0, 1, .l1, 0, 96, 192, 8, 0, [1], .off, []⟩

/-- A Limit Table entry as its 13 bytes. -/
def LimitEntry.encode (e : LimitEntry) : List Byte :=
  [flagByte e.valid, byte e.group.val] ++ e.ref.encode ++ [e.direction.code] ++ beNat e.limit
    ++ beNat e.hysteresis ++ [byte e.raiseCount, byte e.clearCount, byte e.flag.val]

/-- A Limit Table entry read with the range check of R92. -/
def LimitEntry.read : List Byte → Option LimitEntry
  | [v, g, c, m, o, d, l1, l0, h1, h0, r, k, f] => do
    let valid ← flagOf v
    let group ← fin8Of g
    let ref ← MeasureRef.read c m o
    let direction ← Direction.ofByte d
    if h : (1 ≤ r.toNat ∧ r.toNat ≤ 15) ∧ (1 ≤ k.toNat ∧ k.toNat ≤ 15) ∧ f.toNat < 16 then
      some ⟨valid, group, ref, direction, (half l1 l0).toNat, (half h1 h0).toNat, r.toNat, k.toNat,
        ⟨f.toNat, h.2.2⟩⟩
    else none
  | _ => none

/-- The default Limit Table entry (R92). -/
def LimitEntry.default : LimitEntry := ⟨false, 0, ⟨0, .mean, 0⟩, .above, 0, 0, 1, 1, 0⟩

/-- A Signature Table entry as its 8 bytes. -/
def Signature.encode (e : Signature) : List Byte :=
  [flagByte e.valid, e.groups] ++ be16 e.pattern ++ be16 e.care ++ [e.code, e.severity.code]

/-- A Signature Table entry read with the range check of R112. -/
def Signature.read : List Byte → Option Signature
  | [v, gs, p1, p0, c1, c0, code, sv] => do
    let valid ← flagOf v
    let severity ← Severity.ofByte sv
    if code = 0 then none else some ⟨valid, gs, half p1 p0, half c1 c0, code, severity⟩
  | _ => none

/-- The default Signature Table entry (R112). -/
def Signature.default : Signature := ⟨false, 0, 0, 0, 1, .advisory⟩

/-- An Event Table entry as its 2 bytes. -/
def EventEntry.encode (e : EventEntry) : List Byte := [byte e.route.val, e.mode.code]

/-- An Event Table entry read with the range check of R133. -/
def EventEntry.read : List Byte → Option EventEntry
  | [r, m] => do
    let mode ← SendMode.ofByte m
    if h : r.toNat < 4 then some ⟨⟨r.toNat, h⟩, mode⟩ else none
  | _ => none

/-- The default Event Table entry (R133). -/
def EventEntry.default : EventEntry := ⟨0, .polled⟩

/-- A Route Table entry as its 2 bytes. -/
def Route.encode (e : Route) : List Byte := [flagByte e.valid, addrByte e.dest]

/-- A Route Table entry read with the range check of R134. -/
def Route.read : List Byte → Option Route
  | [v, d] => do
    let valid ← flagOf v
    if d.toNat ≤ 62 then some ⟨valid, addrOf d⟩ else none
  | _ => none

/-- The default Route Table entry (R134). -/
def Route.default : Route := ⟨false, 0⟩

/-- A Part Settings record as its 10 bytes. -/
def Settings.encode (e : Settings) : List Byte :=
  [addrByte e.partAddr, addrByte e.reportDest, addrByte e.eventDest, flagByte e.eventTable, byte e.staleMs]
    ++ beNat e.commitMs ++ [flagByte e.acceptS, flagByte e.acceptC, flagByte e.portSEnable]

/-- A Part Settings record read with the write check of R172. -/
def Settings.read : List Byte → Option Settings
  | [pa, rd, ed, et, st, c1, c0, as, ac, en] => do
    let eventTable ← flagOf et
    let acceptS ← flagOf as
    let acceptC ← flagOf ac
    let enable ← flagOf en
    if pa.toNat ≤ 63 ∧ rd.toNat ≤ 63 ∧ ed.toNat ≤ 63 then
      some ⟨addrOf pa, addrOf rd, addrOf ed, eventTable, st.toNat, (half c1 c0).toNat, acceptS, acceptC, enable⟩
    else none
  | _ => none

/-- The default Part Settings, with the part address from the straps (R172, R12). -/
def Settings.default (straps : BitVec 3) : Settings :=
  ⟨48 + straps.setWidth 6, 0, 0, false, 10, 500, false, true, true⟩

/-- A bank of default entries (R193). -/
def Bank.default (straps : BitVec 3) : Bank where
  channelMap := Vector.replicate 64 MapEntry.default
  plans := Vector.replicate 8 Plan.default
  limits := Vector.replicate 96 LimitEntry.default
  signatures := Vector.replicate 32 Signature.default
  events := Vector.replicate 16 EventEntry.default
  routes := Vector.replicate 4 Route.default
  settings := Settings.default straps

/-! ## Records and event frames (2.1.4, 2.1.5) -/

/-- A measure of a verdict as its 6 bytes; an unavailable one carries value 0. -/
def Measure.encode (m : Measure) : List Byte :=
  m.ref.encode ++ [flagByte m.value.isSome] ++ beInt (m.value.getD 0)

/-- A VERDICT record. -/
def Verdict.encode (v : Verdict) : List Byte :=
  [1, byte v.group.val] ++ be16 v.window ++ be16 v.start ++ [byte v.len, v.outcome.code] ++ be16 v.vector
    ++ [v.code, flagByte v.trip ||| (if v.dropped.isSome then 2 else 0)]
    ++ (match v.dropped with
        | some n => beNat n
        | none => [])
    ++ [byte v.measures.length] ++ v.measures.flatMap Measure.encode

/-- A REPLY record. -/
def Reply.encode (r : Reply) : List Byte := [2, r.seq, r.code, r.status.code] ++ r.data

/-- A MARKER record. -/
def Marker.encode : Marker → List Byte
  | .holdEffective => [3, 1]
  | .holdEnded cause never => [3, 2, (match cause with | .request => 1 | .expiry => 2), flagByte never]
  | .commitDone g n => [3, 3] ++ be16 g ++ [byte n]
  | .groupQuiesced g => [3, 4, byte g.val]
  | .snapshot ready => [3, 5, if ready then 1 else 2]

/-- The payload of a REPORT frame. -/
def Record.encode : Record → List Byte
  | .verdict v => v.encode
  | .reply r => r.encode
  | .marker m => m.encode

/-- A detail entry as the bytes of 2.1.5. -/
def Detail.encode : Detail → List Byte
  | .limit g e w v => [byte g.val, byte e] ++ be16 w ++ beInt v
  | .diagnosisSet g code sv i w => [byte g.val, code, sv.code, byte i] ++ be16 w
  | .diagnosisCleared g code w => [byte g.val, code] ++ be16 w
  | .sourceGap n sq k => [byte (nodeAddr n), sq, byte k]
  | .windowRejected g w => [byte g.val] ++ be16 w ++ [1]

/-- The payload of an EVENT frame. -/
def SlotFrame.encode (f : SlotFrame) : List Byte :=
  [byte f.kind.code, byte f.remaining] ++
    (match f.detail with
     | some d => 1 :: d.encode
     | none => [0])

/-! ## Request envelopes (2.1.3) -/

/-- RESTART_ANALYSIS request code. -/
def codeRestart : Byte := 0x0C
/-- RESET_PART request code. -/
def codeResetPart : Byte := 0x0D

/-- The parameters have the length, and the counts and table ids the ranges, of their request code (R24). -/
def envelopeOk (code : Byte) (ps : List Byte) : Bool :=
  if code = 0x01 then
    decide (3 ≤ ps.length) && byteAt ps 2 != 0 &&
      (match TableId.ofByte (byteAt ps 0) with
       | some t => decide (ps.length = 3 + (byteAt ps 2).toNat * t.entrySize)
       | none => false)
  else if code = 0x02 then decide (ps.length = 4)
  else if code ∈ [(0x05 : Byte), 0x10, 0x11, 0x12, 0x13, 0x19] then decide (ps.length = 2)
  else if code ∈ [(0x07 : Byte), 0x08, 0x0A, 0x0C] then decide (ps.length = 1)
  else if code ∈ [(0x03 : Byte), 0x04, 0x06, 0x09, 0x0B, 0x0D, 0x14, 0x1A] then decide (ps.length = 0)
  else if code = 0x18 then
    let n := (byteAt ps 2).toNat
    decide (3 ≤ ps.length) && decide (1 ≤ n ∧ n ≤ 4) && decide (ps.length = 3 + n)
  else false

/-- A list of bytes cut into entries of a given size. -/
def chunks (size : Nat) : Nat → List Byte → List (List Byte)
  | 0, _ => []
  | n + 1, bs => bs.take size :: chunks size n (bs.drop size)

/-- The record whose frame carries the DONE reply of a RESET_PART request (R17, log 26). -/
def Record.isResetPartDone : Record → Bool
  | .reply r => r.code == codeResetPart && r.status == .done
  | _ => false

end Sys2Proof.Machine
end

