-- ==== Sys2Proof/Machine/Flags.lean ====
section
/-! DEFINITION. Flag computations: kind sets and group sets, the limit entry state machine (R95 to R97), exceedance
vectors (R101), signature matching (R114) and the sets computed from latches (R118, R123). -/

namespace Sys2Proof.Machine

/-! ## Flag sets (2.1) -/

/-- The set that holds the one kind k. -/
def EventKind.flag (k : EventKind) : KindSet := 1#16 <<< k.code

/-- Kind k is in the set. -/
def KindSet.has (x : KindSet) (k : EventKind) : Bool := x.getLsbD k.code

/-- The set with kind k. -/
def KindSet.set (x : KindSet) (k : EventKind) : KindSet := x ||| k.flag

/-- The set without kind k. -/
def KindSet.clear (x : KindSet) (k : EventKind) : KindSet := x &&& ~~~k.flag

/-- Group g is in the set. -/
def GroupSet.has (x : GroupSet) (g : Group) : Bool := x.getLsbD g.val

/-- The set with group g. -/
def GroupSet.set (x : GroupSet) (g : Group) : GroupSet := x ||| (1#8 <<< g.val)

/-- The set of the groups for which p holds. -/
def GroupSet.of (p : Group → Bool) : GroupSet :=
  all8.foldl (fun x g => if p g then GroupSet.set x g else x) 0

/-! ## The limit entry state machine -/

/-- The class of a value under an entry (R95): integers compared, L - H at least 0, L + H at most 65,535. A negative MEAN
under a BELOW entry with limit 0 is OVER, as the table has it (log 38). -/
def LimitEntry.classify (e : LimitEntry) (v : Int) : LimitClass :=
  match e.direction with
  | .above =>
    if (e.limit : Int) < v then .over
    else if v ≤ ((e.limit - e.hysteresis : Nat) : Int) then .under
    else .band
  | .below =>
    if v < (e.limit : Int) then .over
    else if ((min Config.counterMax (e.limit + e.hysteresis) : Nat) : Int) ≤ v then .under
    else .band

/-- The move of a stepped entry by the class of its value (R96). -/
def LimitEntry.move (e : LimitEntry) : LimitState → LimitClass → LimitState
  | .clear, .over => if e.raiseCount = 1 then .exceeded else .rising 1
  | .clear, .band => .clear
  | .clear, .under => .clear
  | .rising k, .over => if k + 1 = e.raiseCount then .exceeded else .rising (k + 1)
  | .rising _, .band => .clear
  | .rising _, .under => .clear
  | .exceeded, .over => .exceeded
  | .exceeded, .band => .exceeded
  | .exceeded, .under => if e.clearCount = 1 then .clear else .falling 1
  | .falling _, .over => .exceeded
  | .falling k, .band => .falling k
  | .falling k, .under => if k + 1 = e.clearCount then .clear else .falling (k + 1)

/-- An entry state holds a fault (6.2). -/
def LimitState.holdsFault : LimitState → Bool
  | .exceeded => true
  | .falling _ => true
  | .clear => false
  | .rising _ => false

/-- The event kind a move raises (R97): a raise from CLEAR or RISING to EXCEEDED, a withdrawal to CLEAR from EXCEEDED
or FALLING. -/
def moveEvent (old new : LimitState) : Option DetailKind :=
  if !old.holdsFault && new.holdsFault then some .limitRaised
  else if old.holdsFault && !new.holdsFault then some .limitCleared
  else none

/-- State code and count k of an entry state as READ_GROUP gives them (R103). -/
def LimitState.encode : LimitState → List Byte
  | .clear => [0, 0]
  | .rising k => [1, byte k]
  | .exceeded => [2, 0]
  | .falling k => [3, byte k]

/-- The exceedance vector of group g from the entries of a bank and their states (R101). -/
def vectorOf (g : Group) : List LimitEntry → List LimitState → Half
  | e :: es, st :: sts =>
    if e.valid && e.group == g && st.holdsFault then (1#16 <<< e.flag.val) ||| vectorOf g es sts
    else vectorOf g es sts
  | _, _ => 0

/-! ## Signatures and latches -/

/-- Entry e matches the vector of group g (R114): a valid candidate whose cared-for flags all agree. -/
def Signature.fits (e : Signature) (g : Group) (vector : Half) : Bool :=
  e.valid && GroupSet.has e.groups g && ((vector ^^^ e.pattern) &&& e.care) == 0

/-- The match of a window: the first entry in ascending index that matches (R114). -/
def firstMatch (g : Group) (vector : Half) : Nat → List Signature → Option (Nat × Signature)
  | _, [] => none
  | i, e :: es => if e.fits g vector then some (i, e) else firstMatch g vector (i + 1) es

/-- A latch holds a diagnosis of severity TRIP_REQUEST (R118). -/
def tripHeld : Option Diagnosis → Bool
  | some d => d.severity == .tripRequest
  | none => false

/-- The alert group set (R123). -/
def alertSet (latches : Vector (Option Diagnosis) 8) : GroupSet :=
  GroupSet.of (fun g => tripHeld latches[g])

/-- Some group's latch holds a diagnosis of severity TRIP_REQUEST (R118). -/
def anyTrip (latches : Vector (Option Diagnosis) 8) : Bool := latches.toList.any tripHeld

/-! ## Event kinds -/

/-- The send mode of a kind under the given Part Settings and Event Table (R135). -/
def Bank.sendMode (b : Bank) (k : EventKind) : SendMode :=
  if b.settings.eventTable then (b.events.toList.getD k.code EventEntry.default).mode else .polled

/-- The destination of an unmasked kind's frame, or none where the named route is invalid (R135, R139). -/
def Bank.eventDest (b : Bank) (k : EventKind) : Option Addr :=
  if b.settings.eventTable then
    let r := b.routes[(b.events.toList.getD k.code EventEntry.default).route]
    if r.valid then some r.dest else none
  else some b.settings.eventDest

/-- A kind is eligible (R136): pending, unless it is unmasked, POLLED and has its status set. -/
def Dispatcher.eligible (d : Dispatcher) (b : Bank) (k : EventKind) : Bool :=
  KindSet.has d.pending k &&
    !(!KindSet.has d.mask k && b.sendMode k == .polled && KindSet.has d.status k)

/-- The kinds in cyclic order from the one after `last` up to `last` itself (R137). -/
def rotation (last : EventKind) : List EventKind :=
  allKinds.drop (last.code + 1) ++ allKinds.take (last.code + 1)

/-- The conduction threshold of a level (R88). -/
def Level.threshold : Level → Int
  | .l1 => 655
  | .l2 => 1638
  | .l3 => 3276
  | .l4 => 6553

end Sys2Proof.Machine
end

