-- ==== Sys2Proof/Machine/ResetValues.lean ====
section
/-! DEFINITION. The values each block takes at a full reset, block by block (R12, R33, R43, R74, R76, R110, R125,
R150, R166, R193, R209). -/

namespace Sys2Proof.Machine

/-- A port after a full reset: SEEK, sending SEEK frames, everything else clear (R12). -/
def PortState.reset (src : Addr) : PortState :=
  ⟨.seek, some 0, false, false, none, none, 0, 0, some ⟨.control, controlFrame src .seek⟩⟩

/-- A Source Table entry after either reset (R43). -/
def SourceEntry.reset : SourceEntry := ⟨.silent, none, none, 0, 0, 0⟩

/-- A FREE descriptor, all its fields cleared (R74, R189; log 32). -/
def Descriptor.free : Descriptor := ⟨.free, 0, 0, none, none, 0, Vector.replicate 8 0, false⟩

/-- A Group Context after a reset, in the given state and generation (R74). -/
def GroupCtx.reset (state : GroupState) (gen : Gen) : GroupCtx :=
  ⟨state, gen, 0, 0, false, none, Vector.replicate 8 none, 0, Vector.replicate 8 [],
    Vector.replicate 3 Descriptor.free⟩

/-- The Event Dispatcher after a full reset (R150). -/
def Dispatcher.reset : Dispatcher := ⟨0, ⟨[], [], [], [], [], []⟩, 0, 0, 0, none, .resetMarkRefused⟩

/-- The Report Queue with nothing in it (R165, R166). -/
def ReportQueue.reset : ReportQueue := ⟨[], 0, []⟩

/-- An emptied Snapshot Buffer (11.1). -/
def emptyBuffer : Vector SnapRow 192 := Vector.replicate 192 (Vector.replicate 4 none)

/-- The Snapshot Unit after either reset (R208, R209). -/
def SnapshotUnit.reset : SnapshotUnit := ⟨.empty, emptyBuffer⟩

/-- Both ports after a full reset with the given cause; the mask timer is left as it stands (R12). -/
def Links.reset (src : Addr) (mask : Option Nat) (cause : ResetCause) : Links :=
  ⟨PortState.reset src, PortState.reset src, mask, cause, false, none, false⟩

/-- The forward buffers and the arbiter after a full reset (R33). -/
def Forwarding.reset : Forwarding := ⟨[], [], .event, 0⟩

/-- The Window Engine and the Harmonic Engine after a full reset (R74, R76). -/
def Analysis.reset : Analysis :=
  ⟨Vector.replicate 8 (GroupCtx.reset .off 0), [], none, Vector.replicate 8 none⟩

/-- The Check Unit after a full reset (R110). -/
def CheckUnit.reset : CheckUnit := ⟨Vector.replicate 96 .clear, none, Vector.replicate 8 0⟩

/-- The Management Unit after a full reset (R193). -/
def Management.reset (straps : BitVec 3) : Management :=
  ⟨none, false, Bank.default straps, Bank.default straps, 0, none, none⟩

end Sys2Proof.Machine
end

