-- ==== Sys2Proof/Machine/State.lean ====
section
/-! DEFINITION. The state of the part, the reasons a step can stop, and the state after reset. -/

namespace Sys2Proof.Machine

/-- Everything the spec gives the part, block by block, and the queue of commands waiting, first in first out. -/
structure State where
  pending : List Instr
  pins : Pins
  links : Links
  fwd : Forwarding
  sources : Vector SourceEntry 16
  ana : Analysis
  chk : CheckUnit
  latches : Vector (Option Diagnosis) 8
  disp : Dispatcher
  rep : ReportQueue
  mgmt : Management
  snap : SnapshotUnit
  deriving DecidableEq, Repr

/-- Faults: none. No rule of the spec stops the part, so no step faults; having no constructor is safe, since every
step has the effect the spec gives it. -/
inductive Fault where
  deriving DecidableEq, Repr

/-- Refusals. -/
inductive Refusal where
  /-- Raised by an arm of `exec` whose command has no meaning yet; no arm raises it. Safe: the machine stops. -/
  | notModelled (mnemonic : String)
  deriving DecidableEq, Repr

/-- Every block as a full reset leaves it: what the straps give, the mask timer as it stood, the cause recorded. -/
def State.fullReset (pending : List Instr) (straps : BitVec 3) (mask : Option Nat) (cause : ResetCause) : State where
  pending := pending
  pins := ⟨straps, none, false⟩
  links := Links.reset (Settings.default straps).partAddr mask cause
  fwd := Forwarding.reset
  sources := Vector.replicate 16 SourceEntry.reset
  ana := Analysis.reset
  chk := CheckUnit.reset
  latches := Vector.replicate 8 none
  disp := Dispatcher.reset
  rep := ReportQueue.reset
  mgmt := Management.reset straps
  snap := SnapshotUnit.reset

/-- The machine right after reset: the power-up full reset has taken effect (R12), with the straps low (log 1). -/
def State.reset : State := State.fullReset [] 0 none .powerOn

end Sys2Proof.Machine
end

