-- ==== Sys2Proof/Machine/Ops.lean ====
section
/-! DEFINITION. The shared operations over the state: one update per block, and the reads every chapter uses. -/

namespace Sys2Proof.Machine

namespace State

/-! ## One update per block -/

/-- The state with another command queue. -/
def setPending (s : State) (x : List Instr) : State := { s with pending := x }
/-- The state with other pins. -/
def setPins (s : State) (x : Pins) : State := { s with pins := x }
/-- The state with other Link Ports. -/
def setLinks (s : State) (x : Links) : State := { s with links := x }
/-- The state with other forward buffers and arbiter. -/
def setFwd (s : State) (x : Forwarding) : State := { s with fwd := x }
/-- The state with another Source Table. -/
def setSources (s : State) (x : Vector SourceEntry 16) : State := { s with sources := x }
/-- The state with another Window Engine and Harmonic Engine. -/
def setAna (s : State) (x : Analysis) : State := { s with ana := x }
/-- The state with another Check Unit. -/
def setChk (s : State) (x : CheckUnit) : State := { s with chk := x }
/-- The state with other Diagnosis Latches; ALERT_N is not touched. -/
def setLatches (s : State) (x : Vector (Option Diagnosis) 8) : State := { s with latches := x }
/-- The state with another Event Dispatcher. -/
def setDisp (s : State) (x : Dispatcher) : State := { s with disp := x }
/-- The state with another Report Queue. -/
def setRep (s : State) (x : ReportQueue) : State := { s with rep := x }
/-- The state with another Management Unit. -/
def setMgmt (s : State) (x : Management) : State := { s with mgmt := x }
/-- The state with another Snapshot Unit. -/
def setSnap (s : State) (x : SnapshotUnit) : State := { s with snap := x }

/-! ## Ports -/

/-- The state of a port. -/
def port (s : State) : Port → PortState
  | .s => s.links.s
  | .c => s.links.c

/-- The state with another state of a port. -/
def setPort (s : State) (p : Port) (x : PortState) : State :=
  match p with
  | .s => s.setLinks { s.links with s := x }
  | .c => s.setLinks { s.links with c := x }

/-- The port is UP. -/
def isUp (s : State) (p : Port) : Bool := (s.port p).link == .up

/-! ## Part Settings in use -/

/-- The active Part Settings (R172). -/
def settings (s : State) : Settings := s.mgmt.active.settings

/-- The active part address (R23). -/
def partAddr (s : State) : Addr := s.settings.partAddr

/-- The part is held in reset: RESET_N low, or power applied and RESET_N not yet high (R12). -/
def isHeld (s : State) : Bool := s.pins.held.isSome

/-- A reset has been accepted or requested whose reset has not yet taken effect: an accepted mark (R15), or a
propagating RESTART_ANALYSIS (R17). -/
def resetComing (s : State) : Bool := s.links.markReset.isSome || s.mgmt.restartMark

/-- Port S is held in DOWN by its enable (R9). -/
def portDisabled (s : State) (p : Port) : Bool := p == .s && !s.settings.portSEnable

/-! ## Groups and banks -/

/-- The context of a group. -/
def group (s : State) (g : Group) : GroupCtx := s.ana.groups[g]

/-- The state with another context of a group. -/
def setGroup (s : State) (g : Group) (x : GroupCtx) : State :=
  s.setAna { s.ana with groups := s.ana.groups.set g x }

/-- A generation is the staging generation of a PENDING commit (R47). -/
def isStagingGen (s : State) (gen : Gen) : Bool :=
  match s.mgmt.commit with
  | some c => gen == c.stagingGen
  | none => false

/-- The bank of a generation: Staging for the staging generation of a PENDING commit, Active otherwise (R47, 4.1; log 30). -/
def bankOf (s : State) (gen : Gen) : Bank :=
  if s.isStagingGen gen then s.mgmt.staging else s.mgmt.active

/-- The group reads the Staging bank: it has switched (R47). -/
def readsStaging (s : State) (g : Group) : Bool := s.isStagingGen (s.group g).gen

/-- The bank a group reads (R47). -/
def groupBank (s : State) (g : Group) : Bank := s.bankOf (s.group g).gen

/-- The plan a group reads (4.2). -/
def plan (s : State) (g : Group) : Plan := (s.groupBank g).plans[g]

/-- Hold control is HOLDING or EFFECTIVE (R68). -/
def holding (s : State) : Bool := s.mgmt.hold.isSome

end State

/-! ## Mapped channels (R45) -/

/-- The entry of channel c of group g in a bank: the valid entry that assigns it, if any (log 31). -/
def Bank.entryOf (b : Bank) (g : Group) (c : Chan) : Option MapEntry :=
  b.channelMap.toList.find? (fun e => e.valid && e.group == g && e.chan == c)

/-- Channel c of group g is mapped in a bank. -/
def Bank.mapped (b : Bank) (g : Group) (c : Chan) : Bool := (b.entryOf g c).isSome

/-- The kind of a mapped channel. -/
def Bank.kindOf (b : Bank) (g : Group) (c : Chan) : Option ChanKind := (b.entryOf g c).map MapEntry.kind

/-- The mapped channels of a group in ascending index. -/
def Bank.channels (b : Bank) (g : Group) : List Chan := all8.filter (fun c => b.mapped g c)

/-- The mapped channels of a group that have a given kind, in ascending index. -/
def Bank.channelsOfKind (b : Bank) (g : Group) (k : ChanKind) : List Chan :=
  (b.channels g).filter (fun c => b.kindOf g c == some k)

/-- The node that carries the reference channel of a plan (R45, R67). -/
def Bank.refNode (b : Bank) (g : Group) : Option Node := (b.entryOf g b.plans[g].refChan).map MapEntry.node

end Sys2Proof.Machine
end

