-- ==== Sys2Proof/Machine/Events.lean ====
section
/-! DEFINITION. The Event Dispatcher (chapter 8): raising, selection, dispatch, the event requests' actions. -/

namespace Sys2Proof.Machine

/-- The stack of a detail kind (R127). -/
def Dispatcher.stack (d : Dispatcher) : DetailKind → List Detail
  | .limitRaised => d.fifos.limitRaised
  | .limitCleared => d.fifos.limitCleared
  | .diagnosisSet => d.fifos.diagnosisSet
  | .diagnosisCleared => d.fifos.diagnosisCleared
  | .sourceGap => d.fifos.sourceGap
  | .windowRejected => d.fifos.windowRejected

/-- The dispatcher with another stack for a detail kind. -/
def Dispatcher.setStack (d : Dispatcher) (k : DetailKind) (l : List Detail) : Dispatcher :=
  match k with
  | .limitRaised => { d with fifos := { d.fifos with limitRaised := l } }
  | .limitCleared => { d with fifos := { d.fifos with limitCleared := l } }
  | .diagnosisSet => { d with fifos := { d.fifos with diagnosisSet := l } }
  | .diagnosisCleared => { d with fifos := { d.fifos with diagnosisCleared := l } }
  | .sourceGap => { d with fifos := { d.fifos with sourceGap := l } }
  | .windowRejected => { d with fifos := { d.fifos with windowRejected := l } }

/-- Raising a kind sets its pending flag; a kind already pending stays pending (R126). -/
def Dispatcher.raise (d : Dispatcher) (k : EventKind) : Dispatcher :=
  { d with pending := KindSet.set d.pending k }

/-- Raising a detail kind: the entry joins the tail of its stack, or is dropped from a full one with DETAIL_OVERRUN;
the kind is pending in both cases (R127). -/
def Dispatcher.raiseDetail (d : Dispatcher) (k : DetailKind) (e : Detail) : Dispatcher :=
  if (d.stack k).length < Config.stackEntries then
    (d.setStack k (d.stack k ++ [e])).raise k.kind
  else (d.raise k.kind).raise .detailOverrun

/-- One occurrence of a kind consumed: its pending flag cleared, or the head of its stack removed and the flag cleared
when the stack is then empty (R138). -/
def Dispatcher.consume (d : Dispatcher) (k : EventKind) : Dispatcher :=
  match k.detailKind with
  | none => { d with pending := KindSet.clear d.pending k }
  | some dk =>
    let rest := (d.stack dk).tail
    let d' := d.setStack dk rest
    if rest.isEmpty then { d' with pending := KindSet.clear d'.pending k } else d'

/-- The frame an unmasked kind with a destination places in the output slot (R140). -/
def Dispatcher.slotFrame (d : Dispatcher) (k : EventKind) (dest : Addr) (mode : SendMode) : SlotFrame :=
  match k.detailKind with
  | none => ⟨k, none, 0, dest, mode⟩
  | some dk => ⟨k, (d.stack dk).head?, (d.stack dk).tail.length, dest, mode⟩

/-- The handling of a selected kind (R137 to R140): it becomes the last-dispatched kind, its raw status is set, and one
occurrence is consumed, into the output slot when the kind is unmasked and has a destination. -/
def Dispatcher.dispatch (d : Dispatcher) (b : Bank) (k : EventKind) : Dispatcher :=
  let d1 := { d with last := k, raw := KindSet.set d.raw k }
  if KindSet.has d.mask k then d1.consume k
  else
    match b.eventDest k with
    | none => d1.consume k
    | some dest => { d1.consume k with slot := some (d1.slotFrame k dest (b.sendMode k)) }

/-- The kind the next selection takes, if any kind is eligible (R137). -/
def Dispatcher.selected (d : Dispatcher) (b : Bank) : Option EventKind :=
  (rotation d.last).find? (fun k => d.eligible b k)

/-- The output slot emptied by a grant, with the status of the frame's kind set (R141). -/
def Dispatcher.handOver (d : Dispatcher) (f : SlotFrame) : Dispatcher :=
  { d with slot := none, status := KindSet.set d.status f.kind }

/-- What an Analysis Restart leaves of the dispatcher: mask and last-dispatched kind (R149). -/
def Dispatcher.restart (d : Dispatcher) : Dispatcher :=
  { Dispatcher.reset with mask := d.mask, last := d.last }

namespace State

/-- A block raises a kind (R126). -/
def raise (s : State) (k : EventKind) : State := s.setDisp (s.disp.raise k)

/-- A block raises a detail kind with its entry (R127). -/
def raiseDetail (s : State) (k : DetailKind) (e : Detail) : State := s.setDisp (s.disp.raiseDetail k e)

end State

/-- A selection, when the output slot is empty, Port C is UP and a kind is eligible; otherwise nothing (R137, R142). -/
def select (s : State) : State :=
  if s.disp.slot.isNone && s.isUp .c then
    match s.disp.selected s.mgmt.active with
    | some k => s.setDisp (s.disp.dispatch s.mgmt.active k)
    | none => s
  else s

end Sys2Proof.Machine
end

