-- ==== Sys2Proof/Machine/Reports.lean ====
section
/-! DEFINITION. The Report Queue (chapter 9): entry, refusal, waiting, merging and draining. -/

namespace Sys2Proof.Machine

/-- A place is free (9.1). -/
def ReportQueue.placeFree (q : ReportQueue) : Bool := decide (q.records.length < Config.reportRecords)

/-- A record at the tail (R151). -/
def ReportQueue.enter (q : ReportQueue) (r : Held) : ReportQueue := { q with records := q.records ++ [r] }

/-- An item at the end of the waiting order (R155, R156). -/
def ReportQueue.wait (q : ReportQueue) (w : Waiting) : ReportQueue := { q with waiting := q.waiting ++ [w] }

/-- The record is a VERDICT. -/
def Record.isVerdict : Record → Bool
  | .verdict _ => true
  | .reply _ => false
  | .marker _ => false

/-- VERDICT records held (R164). -/
def ReportQueue.verdicts (q : ReportQueue) : Nat := (q.records.filter (fun h => h.record.isVerdict)).length

/-- Two markers are of the same kind, and for GROUP_QUIESCED of the same group (R156). -/
def Marker.sameKind : Marker → Marker → Bool
  | .holdEffective, .holdEffective => true
  | .holdEnded _ _, .holdEnded _ _ => true
  | .commitDone _ _, .commitDone _ _ => true
  | .groupQuiesced g, .groupQuiesced h => g == h
  | .snapshot _, .snapshot _ => true
  | _, _ => false

/-- The parameters a waiting marker takes when one of its kind becomes owed (R156): those of the later one, and for
COMMIT_DONE the sum of the forced counts, held at 255. -/
def Marker.merge : Marker → Marker → Marker
  | .commitDone _ n, .commitDone g k => .commitDone g (min 255 (n + k))
  | _, later => later

/-- The marker of the given kind that waits, if any, is merged with; none when no such marker waits. -/
def mergeWaiting (m : Marker) : List Waiting → Option (List Waiting)
  | [] => none
  | .marker w :: rest =>
    if w.sameKind m then some (.marker (w.merge m) :: rest)
    else (mergeWaiting m rest).map (fun l => .marker w :: l)
  | .reply d r :: rest => (mergeWaiting m rest).map (fun l => .reply d r :: l)

/-- A marker offered (R152, R156): it enters when a place is free, merges with a waiting one of its kind, or waits. -/
def ReportQueue.offerMarker (q : ReportQueue) (dest : Addr) (m : Marker) : ReportQueue :=
  if q.placeFree then q.enter ⟨dest, .marker m⟩
  else
    match mergeWaiting m q.waiting with
    | some w => { q with waiting := w }
    | none => q.wait (.marker m)

/-- A BUSY reply offered: it enters when a place is free and is discarded otherwise (R155). -/
def ReportQueue.offerBusy (q : ReportQueue) (dest : Addr) (r : Reply) : ReportQueue :=
  if q.placeFree then q.enter ⟨dest, .reply r⟩ else q

/-- A verdict meets room for it: fewer than 60 records held (R152). -/
def ReportQueue.roomForVerdict (q : ReportQueue) : Bool := decide (q.records.length < Config.verdictRoom)

/-- The entry of a verdict, which takes the drop count when it is nonzero (R154). -/
def ReportQueue.enterVerdict (q : ReportQueue) (dest : Addr) (v : Verdict) : ReportQueue :=
  { q.enter ⟨dest, .verdict { v with dropped := if q.dropCount = 0 then none else some q.dropCount }⟩ with
    dropCount := 0 }

/-- The refusal of a verdict: counted (R153). -/
def ReportQueue.refuseVerdict (q : ReportQueue) : ReportQueue := { q with dropCount := satAdd q.dropCount 1 }

namespace State

/-- A marker offered by its owner, to the active report destination (R156, R160). -/
def offerMarker (s : State) (m : Marker) : State :=
  s.setRep (s.rep.offerMarker s.settings.reportDest m)

/-- The request buffer emptied: its request is no longer in progress (R155). -/
def endRequest (s : State) : State := s.setMgmt { s.mgmt with request := none }

/-- The reply to the request in progress: it enters and ends the request, or waits and the request stays in progress
(R152, R155). -/
def answer (s : State) (r : Request) (status : Status) (data : List Byte) : State :=
  let reply : Reply := ⟨r.seq, r.code, status, data⟩
  if s.rep.placeFree then (s.setRep (s.rep.enter ⟨r.source, .reply reply⟩)).endRequest
  else s.setRep (s.rep.wait (.reply r.source reply))

/-- The answer to a request that arrives while another is in progress (R155, R167). -/
def answerBusy (s : State) (r : Request) : State :=
  s.setRep (s.rep.offerBusy r.source ⟨r.seq, r.code, .busy, []⟩)

/-- The first waiting item takes a place that has freed (R157); a waiting reply then ends its request. -/
def admitWaiting (s : State) : State :=
  match s.rep.waiting with
  | [] => s
  | .reply dest r :: rest =>
    (s.setRep { s.rep.enter ⟨dest, .reply r⟩ with waiting := rest }).endRequest
  | .marker m :: rest =>
    s.setRep { s.rep.enter ⟨s.settings.reportDest, .marker m⟩ with waiting := rest }

/-- The head record leaves and the first waiting item enters (R157, R158). -/
def dropHead (s : State) : State :=
  (s.setRep { s.rep with records := s.rep.records.tail }).admitWaiting

/-- A HOLD_EFFECTIVE marker still waits (R184). -/
def effectiveWaits (s : State) : Bool := s.rep.waiting.any (fun w => w == .marker .holdEffective)

end State
end Sys2Proof.Machine
end

