-- ==== Sys2Proof/Machine/Checks.lean ====
section
/-! DEFINITION. The Check Unit (chapter 6), the Signature Classifier with ALERT_N (chapter 7), and the armed capture's
aborts (11.4): the parts of them that other blocks act on. -/

namespace Sys2Proof.Machine

/-- Every state of the entries of group g set to CLEAR (R105, R107). -/
def clearStates (g : Group) (entries : Vector LimitEntry 96) (states : Vector LimitState 96) :
    Vector LimitState 96 :=
  vzip (fun e st => if e.group == g then .clear else st) entries states

namespace State

/-- The state set of the bank group g reads (R94). -/
def limitStates (s : State) (g : Group) : Vector LimitState 96 :=
  if s.readsStaging g then s.chk.staging.getD s.chk.active else s.chk.active

/-- The state set of the bank group g reads, replaced (R94). -/
def setLimitStates (s : State) (g : Group) (x : Vector LimitState 96) : State :=
  if s.readsStaging g then s.setChk { s.chk with staging := some x } else s.setChk { s.chk with active := x }

/-- The exceedance vector of group g. -/
def vector (s : State) (g : Group) : Half := s.chk.vectors[g]

/-- The exceedance vector of group g replaced. -/
def setVector (s : State) (g : Group) (v : Half) : State :=
  s.setChk { s.chk with vectors := s.chk.vectors.set g v }

/-- The exceedance vector of group g brought up to date with its entry states (R101). -/
def refreshVector (s : State) (g : Group) : State :=
  s.setVector g (vectorOf g (s.groupBank g).limits.toList (s.limitStates g).toList)

/-- The entry states of group g cleared in the set it reads, and its vector 0x0000, without events (R105, R107). -/
def clearChecks (s : State) (g : Group) : State :=
  (s.setLimitStates g (clearStates g (s.groupBank g).limits (s.limitStates g))).setVector g 0

/-- ALERT_N brought up to date: asserted exactly while a latch holds a TRIP_REQUEST diagnosis, and released while
RESET_N is low (R118). -/
def refreshAlert (s : State) : State :=
  s.setPins { s.pins with alert := !s.isHeld && anyTrip s.latches }

/-- The Diagnosis Latch of group g. -/
def latch (s : State) (g : Group) : Option Diagnosis := s.latches[g]

/-- A latch set, replaced or cleared, ALERT_N following in the same event (R115, R118, R120). -/
def setLatch (s : State) (g : Group) (d : Option Diagnosis) : State :=
  (s.setLatches (s.latches.set g d)).refreshAlert

/-- The armed capture of group g, if any, ended with a SNAPSHOT marker of outcome ABORTED (R201, R202). -/
def abortSnapshot (s : State) (g : Group) : State :=
  match s.snap.state with
  | .armed a => if a.group == g then (s.setSnap SnapshotUnit.reset).offerMarker (.snapshot false) else s
  | .empty => s
  | .ready _ _ => s

end State
end Sys2Proof.Machine
end

