-- ==== Sys2Proof/Machine/Windows.lean ====
section
/-! DEFINITION. The Window Engine (chapter 4): crossings, the Sample Store, descriptors, settlement, the Evaluation
Queue, blindness, quiesce, switches; and the start of an evaluation (R77, R78). -/

namespace Sys2Proof.Machine

/-! ## The Sample Store (4.1) -/

/-- Two ticks are assigned one cell: any 640 consecutive ticks have 640 different cells, so the cell of a tick comes
round again 640 ticks later (log 14). -/
def sameCell (t u : Tick) : Bool :=
  t == u ||
    (decide (Config.storeDepth ≤ min (t - u).toNat (u - t).toNat) &&
      (decide ((t - u).toNat % Config.storeDepth = 0) || decide ((u - t).toNat % Config.storeDepth = 0)))

/-- A sample put in its place in ascending tick. -/
def insertCell (t : Tick) (v : Int) : Cells → Cells
  | [] => [(t, v)]
  | c :: rest => if t.toNat < c.1.toNat then (t, v) :: c :: rest else c :: insertCell t v rest

/-- A sample written into the cell of its tick, replacing what the cell held (R61). -/
def writeCell (t : Tick) (v : Int) (cells : Cells) : Cells :=
  insertCell t v (cells.filter (fun c => !sameCell t c.1))

/-- The sample present for a tick, if any (4.1). -/
def present? (cells : Cells) (t : Tick) : Option Int := (cells.find? (fun c => c.1 == t)).map Prod.snd

/-- How many of the n ticks from `start` have their sample present. -/
def countPresent (cells : Cells) (start : Tick) (n : Nat) : Nat :=
  (cells.filter (fun c => decide ((c.1 - start).toNat < n))).length

/-- The canonical form of a channel's cells: ticks strictly rising. -/
def cellsWf : Cells → Bool
  | [] => true
  | [_] => true
  | a :: b :: rest => decide (a.1.toNat < b.1.toNat) && cellsWf (b :: rest)

/-! ## Descriptors (4.1, R64) -/

/-- A descriptor is live (4.1). -/
def Descriptor.live (d : Descriptor) : Bool := d.state != .free

/-- A tick lies in a window: at or after its start, and before its end when it has one. -/
def Descriptor.contains (d : Descriptor) (t : Tick) : Bool :=
  atOrAfter t d.start &&
    (match d.stop with
     | some e => before t e
     | none => true)

namespace GroupCtx

/-- The group with another descriptor. -/
def setDesc (x : GroupCtx) (d : Desc) (w : Descriptor) : GroupCtx := { x with descs := x.descs.set d w }

/-- The lowest-numbered descriptor in a state. -/
def descIn (x : GroupCtx) (st : DescState) : Option Desc := all3.find? (fun d => x.descs[d].state == st)

/-- How many windows the group has opened since this one did (log 15). -/
def age (x : GroupCtx) (d : Desc) : Nat := (x.counter - x.descs[d].number).toNat

/-- The oldest live window of the group: the one that opened first (4.1). -/
def oldestLive (x : GroupCtx) : Option Desc :=
  all3.foldl (fun best d =>
    if x.descs[d].live then
      (match best with
       | some b => if x.age b < x.age d then some d else some b
       | none => some d)
    else best) none

/-- A descriptor made FREE; the cells before the start of the oldest remaining live window are emptied (R61). -/
def freeDesc (x : GroupCtx) (d : Desc) : GroupCtx :=
  let y := x.setDesc d Descriptor.free
  match y.oldestLive with
  | some o => { y with store := vmap (fun cs => cs.filter (fun c => !before c.1 y.descs[o].start)) y.store }
  | none => y

/-- The number of samples present over a span, channel by channel (R60, R64). -/
def counts (x : GroupCtx) (start : Tick) (n : Nat) : Vector Nat 8 :=
  vmap (fun cs => countPresent cs start n) x.store

/-- The changes made on each entry into SEEKING (R55). -/
def enterSeeking (x : GroupCtx) : GroupCtx :=
  { x with
    state := .seeking, arm := false, lastRef := none, frontiers := Vector.replicate 8 none, rejects := 0,
    store := vmap (fun cs => cs.filter (fun c =>
      all3.any (fun d => x.descs[d].live && x.descs[d].contains c.1))) x.store }

/-- The changes made on entry into OFF (R55). -/
def enterOff (x : GroupCtx) : GroupCtx :=
  { x with state := .off, arm := false, lastRef := none, frontiers := Vector.replicate 8 none }

/-- SEEKING when the plan is enabled, OFF when it is disabled (R55, R70, R71). -/
def seekOrOff (x : GroupCtx) (p : Plan) : GroupCtx := if p.enabled then x.enterSeeking else x.enterOff

/-- A descriptor QUEUED or EVALUATING exists (R69). -/
def inFlight (x : GroupCtx) : Bool :=
  all3.any (fun d => x.descs[d].state == .queued || x.descs[d].state == .evaluating)

/-! ## Placement and frontiers (R61, R62) -/

/-- A sample of tick t is late (R61, first two lines). -/
def isLate (x : GroupCtx) (t : Tick) : Bool :=
  all3.any (fun d =>
    (x.descs[d].state == .queued || x.descs[d].state == .evaluating) && x.descs[d].contains t) ||
  (match x.oldestLive with
   | some o => before t x.descs[o].start
   | none => false)

/-- A sample of tick t is ahead (R61, third and fourth lines). -/
def isAhead (x : GroupCtx) (t : Tick) : Bool :=
  all3.any (fun d => x.descs[d].state == .opened && moreThanAfter 255 t x.descs[d].start) ||
  (match x.oldestLive with
   | some o => moreThanAfter (Config.storeDepth - 1) t x.descs[o].start
   | none => false)

/-- The window whose received count a placed sample of tick t increases: the SETTLING window that contains it,
otherwise the OPEN window when the tick is at or after its start (R61). -/
def countedIn (x : GroupCtx) (t : Tick) : Option Desc :=
  match all3.find? (fun d => x.descs[d].state == .settling && x.descs[d].contains t) with
  | some d => some d
  | none => all3.find? (fun d => x.descs[d].state == .opened && atOrAfter t x.descs[d].start)

/-- A received count increased by 1. -/
def countOne (x : GroupCtx) (d : Desc) (c : Chan) : GroupCtx :=
  let w := x.descs[d]
  x.setDesc d { w with received := w.received.set c (w.received[c] + 1) }

/-- A sample placed in the store, or discarded as late or ahead and counted (R61). -/
def place (x : GroupCtx) (c : Chan) (t : Tick) (v : Int) : GroupCtx :=
  if x.isLate t || x.isAhead t then { x with late := satAdd x.late 1 }
  else
    let old := x.store[c]
    let y := { x with store := x.store.set c (writeCell t v old) }
    if (present? old t).isSome then y
    else
      match x.countedIn t with
      | some d => y.countOne d c
      | none => y

/-- A tick is after the frontier of a channel, or that frontier is absent (R57, R62). -/
def passes (x : GroupCtx) (c : Chan) (t : Tick) : Bool :=
  match x.frontiers[c] with
  | some f => after t f
  | none => true

/-- The frontier of a channel advanced to a tick after it, or to any tick when absent (R62). -/
def advance (x : GroupCtx) (c : Chan) (t : Tick) : GroupCtx :=
  if x.passes c t then { x with frontiers := x.frontiers.set c (some t) } else x

/-- The frontier of a channel is at or after a tick; an absent frontier is not (R63). -/
def reached (x : GroupCtx) (c : Chan) (t : Tick) : Bool :=
  match x.frontiers[c] with
  | some f => atOrAfter f t
  | none => false

/-- An examined reference sample is an accepted rising crossing (R58). -/
def crossing (x : GroupCtx) (t : Tick) (v : Int) : Bool :=
  decide (0 ≤ v) && x.arm &&
    (match x.lastRef with
     | some (u, w) => u == t - 1 && decide (w < 0)
     | none => false)

end GroupCtx

/-- The length a crossing gives the OPEN window lies within the plan's bounds (R60). A length above the max length that
R59 does not reject, which a crossing before the window's start has, closes nothing (log 37). -/
def Plan.closesAt (p : Plan) (len : Nat) : Bool := decide (p.minLen ≤ len ∧ len ≤ p.maxLen)

namespace State

/-- A group changed by a function of its context. -/
def modGroup (s : State) (g : Group) (f : GroupCtx → GroupCtx) : State := s.setGroup g (f (s.group g))

/-! ## The Evaluation Queue and the start of an evaluation -/

/-- The evaluation duration of a window, in units of 50 ns: 20 us + 1 us x C x H + 0.05 us x C x N (R78). -/
def evalDuration (s : State) (w : WinRef) : Nat :=
  let d := (s.group w.group).descs[w.desc]
  let bank := s.bankOf d.tag
  let n := d.len.getD 0
  let channels := (bank.channels w.group).length
  let orders := (bank.plans[w.group].orders.filter (fun h => decide (2 * h < n))).length
  Config.unitsPerUs * (20 + channels * orders) + channels * n

/-- The state of a descriptor replaced. -/
def setDescState (s : State) (w : WinRef) (st : DescState) : State :=
  s.modGroup w.group (fun x => x.setDesc w.desc { x.descs[w.desc] with state := st })

/-- The idle engine takes the head of the Evaluation Queue (R77). -/
def engineTake (s : State) : State :=
  match s.ana.engine, s.ana.queue with
  | none, w :: rest =>
    let s1 := s.setDescState w .evaluating
    s1.setAna { s1.ana with queue := rest, engine := some ⟨w, s.evalDuration w, 0⟩ }
  | _, _ => s

/-- A descriptor of a group made FREE (R61, R65). -/
def freeDesc (s : State) (w : WinRef) : State := s.modGroup w.group (fun x => x.freeDesc w.desc)

/-- A window settles: it joins the tail of the Evaluation Queue, or finds it full and is freed with
EVALUATION_OVERRUN (R63, R66, R77). -/
def settle (s : State) (w : WinRef) : State :=
  if s.ana.queue.length < Config.evalQueueEntries then
    let s1 := s.setDescState w .queued
    (s1.setAna { s1.ana with queue := s1.ana.queue ++ [w] }).engineTake
  else (s.freeDesc w).raise .evaluationOverrun

/-- The SETTLING window of a group, if any, settles at once (R60, R63). -/
def settleNow (s : State) (g : Group) : State :=
  match (s.group g).descIn .settling with
  | some d => s.settle ⟨g, d⟩
  | none => s

/-- The settlement of a group's SETTLING window judged on the frontiers (R63). -/
def judgeSettlement (s : State) (g : Group) : State :=
  let x := s.group g
  match x.descIn .settling with
  | none => s
  | some d =>
    let w := x.descs[d]
    let bank := s.bankOf w.tag
    let stop := w.stop.getD 0
    let allHave := (bank.channels g).all (fun c => x.reached c (stop - 1))
    let allowed := x.reached (s.plan g).refChan (stop + BitVec.ofNat 16 bank.plans[g].allowance)
    if allHave || allowed then s.settle ⟨g, d⟩ else s

/-- The OPEN window of a group, if any, discarded to FREE (R67, R69, R73). -/
def discardOpen (s : State) (g : Group) : State :=
  match (s.group g).descIn .opened with
  | some d => s.freeDesc ⟨g, d⟩
  | none => s

/-- The exhaustion rule: the group's oldest QUEUED window is withdrawn, with EVALUATION_OVERRUN (R64). -/
def withdrawOldest (s : State) (g : Group) : State :=
  match s.ana.queue.find? (fun w => w.group == g) with
  | some w =>
    let s1 := s.freeDesc w
    (s1.setAna { s1.ana with queue := s1.ana.queue.erase w }).raise .evaluationOverrun
  | none => s

/-- The descriptor of a window that opens at tick t in group x (R64). -/
def openedDesc (x : GroupCtx) (t : Tick) (held : Bool) : Descriptor :=
  ⟨.opened, x.counter + 1, t, none, none, x.gen, x.counts t 256, held⟩

/-- A window opens at tick t: exhaustion first when no descriptor is FREE, then the lowest-numbered FREE one (R64,
log 16). -/
def openWindow (s : State) (g : Group) (t : Tick) : State :=
  let s1 := if ((s.group g).descIn .free).isNone then s.withdrawOldest g else s
  match (s1.group g).descIn .free with
  | some d =>
    s1.modGroup g (fun x => { x.setDesc d (openedDesc x t s.holding) with counter := x.counter + 1 })
  | none => s1

/-! ## Switches (R71, R72) -/

/-- The group has yet to switch to the generation of a PENDING commit (R72, R179). -/
def switchPending (s : State) (g : Group) : Bool :=
  match s.mgmt.commit with
  | some c => !GroupSet.has c.switched g
  | none => false

/-- A switch of a group: its generation, limit states, vector, latch, rejection count and last-verdict record, and an
armed capture of it ended (R71, R105, R120, R179, R201). -/
def switchGroup (s : State) (g : Group) : State :=
  match s.mgmt.commit with
  | none => s
  | some c =>
    let s1 := s.modGroup g (fun x => { x with gen := c.stagingGen, rejects := 0 })
    let s2 := s1.setMgmt { s1.mgmt with commit := some { c with switched := GroupSet.set c.switched g } }
    let s3 := (s2.clearChecks g).setLatch g none
    let s4 := s3.setAna { s3.ana with lastVerdicts := s3.ana.lastVerdicts.set g none }
    s4.abortSnapshot g

/-- A group takes SEEKING or OFF from the plan it reads (R71). -/
def takeSeekOrOff (s : State) (g : Group) : State := s.modGroup g (fun x => x.seekOrOff (s.plan g))

/-- The pending switch of a group at a boundary (R72): under an enabled new plan the group stays TRACKING; under a
disabled one a SETTLING window settles at once and the group enters OFF. -/
def boundarySwitch (s : State) (g : Group) : State :=
  if s.switchPending g then
    let s1 := s.switchGroup g
    if (s1.plan g).enabled then s1 else (s1.settleNow g).modGroup g GroupCtx.enterOff
  else s

/-- The rest of a boundary at tick t: the arm cleared, the pending switch, and the next window unless the switch has
taken the group out of TRACKING (R59, R60, R72). -/
def boundary (s : State) (g : Group) (t : Tick) : State :=
  let s1 := (s.modGroup g (fun x => { x with arm := false })).boundarySwitch g
  if (s1.group g).state == .tracking then s1.openWindow g t else s1

/-- Entry of a group into BLIND (R67), carrying a pending switch (R72). -/
def enterBlind (s : State) (g : Group) : State :=
  let s1 := ((s.raise .groupBlind).modGroup g (fun x => { x with state := .blind })).discardOpen g
  let s2 := (s1.settleNow g).modGroup g (fun x => { x with arm := false })
  if s2.switchPending g then (s2.switchGroup g).takeSeekOrOff g else s2

/-- Entry of a group into QUIESCED (R69, R107, R120), carrying a pending switch (R72). -/
def enterQuiesced (s : State) (g : Group) : State :=
  let s1 := s.modGroup g (fun x =>
    { x with state := .quiesced, frontiers := Vector.replicate 8 none, lastRef := none, arm := false })
  let s2 := (((s1.clearChecks g).setLatch g none).offerMarker (.groupQuiesced g))
  if s2.switchPending g then s2.switchGroup g else s2

/-- A QUIESCING group is judged for QUIESCED (R69). -/
def judgeQuiesced (s : State) (g : Group) : State :=
  if (s.group g).state == .quiescing && !(s.group g).inFlight then s.enterQuiesced g else s

/-! ## Reference samples (R57 to R60) -/

/-- The rejection of the OPEN window d at tick t (R59). -/
def rejectWindow (s : State) (g : Group) (d : Desc) (t : Tick) : State :=
  let number := (s.group g).descs[d].number
  let s1 := (s.freeDesc ⟨g, d⟩).raiseDetail .windowRejected (.windowRejected g number)
  let s2 := s1.modGroup g (fun x => { x with rejects := x.rejects + 1 })
  if (s2.group g).rejects < 3 then s2.boundary g t else s2.enterBlind g

/-- The close of the OPEN window d at tick t (R60). -/
def closeWindow (s : State) (g : Group) (d : Desc) (t : Tick) : State :=
  let s1 := s.settleNow g
  let w := (s1.group g).descs[d]
  let n := (t - w.start).toNat
  let s2 :=
    if s.holding then s1.freeDesc ⟨g, d⟩
    else s1.modGroup g (fun x =>
      { x.setDesc d { w with state := .settling, stop := some t, len := some n, received := x.counts w.start n }
        with rejects := 0 })
  (s2.boundary g t).judgeSettlement g

/-- The crossing arm set by an examined sample at or below -band (R57). -/
def armBy (s : State) (g : Group) (p : Plan) (v : Int) : State :=
  if v ≤ -(p.band : Int) then s.modGroup g (fun x => { x with arm := true }) else s

/-- An examined sample judged in SEEKING (R58). -/
def judgeSeeking (s : State) (g : Group) (p : Plan) (t : Tick) (v : Int) : State :=
  if (s.group g).crossing t v then
    (s.openWindow g t).modGroup g (fun x => { x with state := .tracking, arm := false })
  else s.armBy g p v

/-- An examined sample judged in TRACKING against the OPEN window d (R59, R60): rejection first, then a crossing, which
closes the window or is ignored for its length (log 37), then arming. -/
def judgeTracking (s : State) (g : Group) (p : Plan) (d : Desc) (t : Tick) (v : Int) : State :=
  let start := (s.group g).descs[d].start
  if atOrAfter t (start + BitVec.ofNat 16 (p.maxLen + 1)) then s.rejectWindow g d t
  else if (s.group g).crossing t v then
    if p.closesAt (t - start).toNat then s.closeWindow g d t else s
  else s.armBy g p v

/-- A reference sample: it ends BLIND, and is examined when its tick is after the reference channel's frontier
(R57, log 20). -/
def takeReference (s : State) (g : Group) (t : Tick) (v : Int) : State :=
  let s1 := if (s.group g).state == .blind then s.modGroup g GroupCtx.enterSeeking else s
  let p := s1.plan g
  let x := s1.group g
  if x.passes p.refChan t then
    let s2 :=
      match x.state with
      | .seeking => s1.judgeSeeking g p t v
      | .tracking =>
        (match x.descIn .opened with
         | some d => s1.judgeTracking g p d t v
         | none => s1.armBy g p v)
      | .off => s1
      | .blind => s1
      | .quiescing => s1
      | .quiesced => s1
    s2.modGroup g (fun y => { y with lastRef := some (t, v) })
  else s1

/-- The group examines its reference in this state (4.3). -/
def examines (st : GroupState) : Bool := st == .seeking || st == .tracking || st == .blind

/-- A channel sample taken, in the five steps of R56. -/
def takeSample (s : State) (g : Group) (c : Chan) (t : Tick) (v : Int) : State :=
  let st := (s.group g).state
  if st == .off || st == .quiesced then s
  else
    let s1 := if c == (s.plan g).refChan && examines st then s.takeReference g t v else s
    (s1.modGroup g (fun x => (x.place c t v).advance c t)).judgeSettlement g

/-! ## Losing the reference (R41, R67) -/

/-- A group whose reference node has gone from TRACKING to STALE enters BLIND from SEEKING or TRACKING (R67). -/
def loseReference (s : State) (gone : Node → Bool) (g : Group) : State :=
  let st := (s.group g).state
  let carried : Bool :=
    match (s.groupBank g).refNode g with
    | some n => gone n
    | none => false
  if (st == .seeking || st == .tracking) && carried then s.enterBlind g else s

/-- The change of nodes from TRACKING to STALE made known to the Window Engine (R41), groups in ascending order
(log 17). -/
def nodesLost (s : State) (gone : Node → Bool) : State := all8.foldl (fun s g => s.loseReference gone g) s

/-! ## Quiesce and resume (R69, R70) -/

/-- A quiesce taken for a group (R69). -/
def quiesce (s : State) (g : Group) : State :=
  let st := (s.group g).state
  if st == .quiescing || st == .quiesced then s
  else
    let s1 := if st == .off then s else (s.discardOpen g).settleNow g
    s1.modGroup g (fun x => { x with state := .quiescing })

/-- A resume taken for a group (R70). -/
def resume (s : State) (g : Group) : State :=
  if (s.group g).state == .quiesced then s.takeSeekOrOff g else s

end State
end Sys2Proof.Machine
end

