-- ==== Sys2Proof/Machine/Measures.lean ====
section
/-! DEFINITION. The measures of a window (section 5.2): filling, the plain metrics, AMPLITUDE computed exactly, the
ratios, and which measure suits which channel (R86). -/

namespace Sys2Proof.Machine

/-! ## Integer helpers -/

/-- The largest number below 2^bits that p holds of, added to acc, for a p that holds up to some bound. -/
def searchMax (p : Nat → Bool) : Nat → Nat → Nat
  | 0, acc => acc
  | b + 1, acc => if p (acc + 2 ^ b) then searchMax p b (acc + 2 ^ b) else searchMax p b acc

/-- The integer square root of a number below 2^64. -/
def isqrt (n : Nat) : Nat := searchMax (fun r => decide (r * r ≤ n)) 32 0

/-- Sum of a list of integers. -/
def sumInt (xs : List Int) : Int := xs.foldl (· + ·) 0

/-- Saturation of an unsigned measure, 0 to 65,535 (R80). -/
def sat (n : Nat) : Int := (min Config.counterMax n : Nat)

/-- Saturation to -32,767 to +32,767 (R49, R80). -/
def clampFull (v : Int) : Int := max (-Config.fullScale) (min Config.fullScale v)

/-! ## Filling (R81) -/

/-- Each missing tick takes the nearest earlier present sample, p before the first. -/
def fillFrom : Int → List (Option Int) → List Int
  | _, [] => []
  | p, none :: rest => p :: fillFrom p rest
  | _, some v :: rest => v :: fillFrom v rest

/-- The first present sample. -/
def firstPresent : List (Option Int) → Option Int
  | [] => none
  | some v :: _ => some v
  | none :: rest => firstPresent rest

/-- The filled channel over the window's ticks, or none when no sample is present (R81). -/
def filled (cells : Cells) (start : Tick) (n : Nat) : Option (List Int) :=
  let xs := (List.range n).map (fun i => present? cells (start + BitVec.ofNat 16 i))
  (firstPresent xs).map (fun v => fillFrom v xs)

/-! ## Plain metrics (R82) -/

/-- MEAN: the sum over N, rounded toward zero. -/
def meanOf (xs : List Int) : Int := clampFull (Int.tdiv (sumInt xs) xs.length)

/-- RMS about the exact mean: the square root of N times the sum of squares less the square of the sum, over N,
rounded toward zero. -/
def rmsOf (xs : List Int) : Nat :=
  let n : Int := xs.length
  let sum := sumInt xs
  isqrt ((n * sumInt (xs.map (fun x => x * x)) - sum * sum).toNat) / xs.length

/-- The largest value. -/
def largest (xs : List Int) : Int := xs.tail.foldl max (xs.headD 0)
/-- The smallest value. -/
def smallest (xs : List Int) : Int := xs.tail.foldl min (xs.headD 0)

/-- PEAK_TO_PEAK. -/
def peakToPeakOf (xs : List Int) : Nat := (largest xs - smallest xs).toNat

/-! ## AMPLITUDE (R83)

AMPLITUDE(h) is the largest k with k x N at most twice the magnitude of S, the sum of x[n] e^(-j2πhn/N).
Whether k qualifies is the sign of 4|S|² - k²N². That sign is taken from fixed-point sums with a margin far above their
error; within the margin it is decided exactly: first whether the number is zero, by a polynomial identity, and when it
is not, at a precision finer than any nonzero value it can take (log 22). -/

/-- The sum of 1/((2i+1) x^(2i+1)) with alternating signs, at scale 2^q: arctan(1/x). -/
def atanTerms (x2 : Nat) : Nat → Nat → Nat → Bool → Int
  | 0, _, _, _ => 0
  | fuel + 1, power, i, neg =>
    let term : Int := (power / (2 * i + 1) : Nat)
    (if neg then -term else term) + atanTerms x2 fuel (power / x2) (i + 1) (!neg)

/-- arctan(1/x) at scale 2^q. -/
def atanInv (q x : Nat) : Int := atanTerms (x * x) (q / 4 + 8) (2 ^ q / x) 0 false

/-- π at scale 2^q, by 16 arctan(1/5) - 4 arctan(1/239). -/
def piAt (q : Nat) : Int := 16 * atanInv q 5 - 4 * atanInv q 239

/-- The pair (cos θ, sin θ) from its power series, θ and the pair at scale 2^q. The first number is the fuel; `k` is
the index of the next term. -/
def seriesTerms (q : Nat) (theta : Nat) : Nat → Nat → Nat → Int × Int
  | 0, _, _ => (0, 0)
  | fuel + 1, term, k =>
    let rest := seriesTerms q theta fuel (term * theta / (2 ^ q * (k + 1))) (k + 1)
    let signed : Int := if k % 4 < 2 then (term : Int) else -(term : Int)
    if k % 2 = 0 then (rest.1 + signed, rest.2) else (rest.1, rest.2 + signed)

/-- (cos, sin) of 2πh/N at scale 2^p, computed with 32 further bits. -/
def turn (p h n : Nat) : Int × Int :=
  let q := p + 32
  let theta := (2 * piAt q * (h : Int) / (n : Int)).toNat
  let r := seriesTerms q theta (p / 4 + 96) (2 ^ q) 0
  (r.1 / 2 ^ 32, r.2 / 2 ^ 32)

/-- The sums of x[n] cos(2πhn/N) and of x[n] sin(2πhn/N) at scale 2^p, by rotation from `at` by `by1`. -/
def rotateSum (p : Nat) (by1 : Int × Int) : Int × Int → List Int → Int × Int
  | _, [] => (0, 0)
  | z, x :: xs =>
    let z' := ((z.1 * by1.1 - z.2 * by1.2) / 2 ^ p, (z.2 * by1.1 + z.1 * by1.2) / 2 ^ p)
    let rest := rotateSum p by1 z' xs
    (rest.1 + x * z.1, rest.2 + x * z.2)

/-- Four times |S|² at scale 2^(2p). -/
def normAt (p h : Nat) (xs : List Int) : Int :=
  let s := rotateSum p (turn p h xs.length) (2 ^ p, 0) xs
  4 * (s.1 * s.1 + s.2 * s.2)

/-- Polynomial coefficients of degree below m from a list folded modulo x^m - 1. -/
def foldMod (m : Nat) (xs : List Int) : List Int :=
  (List.range m).map (fun j => sumInt ((xs.zipIdx.filter (fun p => p.2 % m == j)).map Prod.fst))

/-- The cyclic autocorrelation of a list: entry e is the sum of y[j] y[j + e]. -/
def autocorrelation (ys : List Int) : List Int :=
  (List.range ys.length).map (fun e =>
    sumInt (List.zipWith (· * ·) ys (ys.drop e ++ ys.take e)))

/-- The prime divisors of m. -/
def primeDivisors (m : Nat) : List Nat :=
  (List.range (m + 1)).filter (fun p => decide (2 ≤ p) && decide (m % p = 0)
    && (List.range p).all (fun d => decide (d < 2) || decide (p % d ≠ 0)))

/-- A polynomial times x^k - 1, modulo x^m - 1 with m its length. -/
def timesShiftLess (k : Nat) (c : List Int) : List Int :=
  List.zipWith (· - ·) (c.drop (c.length - k) ++ c.take (c.length - k)) c

/-- A polynomial of m coefficients is zero at the primitive m-th roots of unity: times every x^(m/p) - 1 with p a
prime divisor of m it is zero modulo x^m - 1. -/
def zeroAtRoots (m : Nat) (c : List Int) : Bool :=
  ((primeDivisors m).foldl (fun c p => timesShiftLess (m / p) c) c).all (fun x => x == 0)

/-- 4|S|² - k²N² is exactly zero: the polynomial whose value it is at e^(j2πh/N), a primitive root of order
N / gcd(h, N), is zero there. -/
def normIs (h : Nat) (xs : List Int) (k : Nat) : Bool :=
  let n := xs.length
  let m := n / Nat.gcd h n
  let r := (autocorrelation (foldMod m xs)).map (4 * ·)
  zeroAtRoots m (r.modify 0 (· - ((k * n : Nat) : Int) ^ 2))

/-- Precision of the first comparison. -/
def lowPrecision : Nat := 128
/-- Precision of the deciding comparison (log 22). -/
def highPrecision : Nat := 5200

/-- k x N is at most 2|S|; `low` is `normAt lowPrecision h xs`. -/
def amplitudeAtLeast (h : Nat) (xs : List Int) (low : Int) (k : Nat) : Bool :=
  let kn : Int := ((k * xs.length : Nat) : Int) ^ 2
  let diff := low - kn * 2 ^ (2 * lowPrecision)
  if (2 : Int) ^ (lowPrecision + 64) < diff then true
  else if diff < -(2 : Int) ^ (lowPrecision + 64) then false
  else if normIs h xs k then true
  else decide (0 ≤ normAt highPrecision h xs - kn * 2 ^ (2 * highPrecision))

/-- AMPLITUDE(h) of a filled channel, rounded toward zero (R83). -/
def amplitudeOf (h : Nat) (xs : List Int) : Nat :=
  searchMax (amplitudeAtLeast h xs (normAt lowPrecision h xs)) 17 0

/-! ## Which measure suits which channel (R86) -/

/-- An AC current kind (R86). -/
def ChanKind.acCurrent : ChanKind → Bool
  | .acA1 => true
  | .acA2 => true
  | .acA3 => true
  | .acB1 => true
  | .acB2 => true
  | .acB3 => true
  | .dcVoltage => false
  | .dcCurrent => false
  | .acVoltageRef => false

/-- The three kinds of bridge A (R85). -/
def bridgeA : List ChanKind := [.acA1, .acA2, .acA3]
/-- The three kinds of bridge B (R85). -/
def bridgeB : List ChanKind := [.acB1, .acB2, .acB3]

/-- The phases of the bridge a kind belongs to. -/
def ChanKind.bridge (k : ChanKind) : List ChanKind := if k ∈ bridgeA then bridgeA else bridgeB

/-- Every kind of a list is mapped in the group. -/
def Bank.hasKinds (b : Bank) (g : Group) (ks : List ChanKind) : Bool :=
  ks.all (fun k => !(b.channelsOfKind g k).isEmpty)

/-- A measure refers to a mapped channel and suits its kind (R86), the order list being that of the group's plan in
the same bank. -/
def Bank.suits (b : Bank) (g : Group) (r : MeasureRef) : Bool :=
  match b.kindOf g r.chan with
  | none => false
  | some k =>
    match r.metric with
    | .mean => true
    | .rms => true
    | .peakToPeak => true
    | .amplitude => b.plans[g].orders.contains r.order
    | .rippleRatio => k == .dcVoltage
    | .thd => k.acCurrent && b.plans[g].orders.contains 1
    | .phaseImbalance => k.acCurrent && b.hasKinds g k.bridge
    | .bridgeBalance => k.acCurrent && b.hasKinds g (bridgeA ++ bridgeB)

/-! ## Measures of a window (R80 to R85) -/

/-- What a window is measured by: its group, the bank of its tag, its start and length, and the group's store. -/
structure WindowView where
  group : Group
  bank : Bank
  start : Tick
  len : Nat
  store : Vector Cells 8

/-- The filled samples of a channel of the window; none when it has no present sample (R81). -/
def WindowView.samples (w : WindowView) (c : Chan) : Option (List Int) := filled w.store[c] w.start w.len

/-- The orders of the plan that are available for the window (R83). -/
def WindowView.orders (w : WindowView) : List Nat :=
  w.bank.plans[w.group].orders.filter (fun h => decide (2 * h < w.len))

/-- The channel that is a given phase of the group: the one mapped channel of that kind; where several have it, the
free value `Config.phasePick` chooses (log 23). -/
def WindowView.phase (w : WindowView) (k : ChanKind) : Option Chan :=
  match w.bank.channelsOfKind w.group k with
  | [] => none
  | [c] => some c
  | cs => cs[Config.phasePick w.group.val k.code.toNat cs.length % cs.length]?

/-- The fundamental of a phase, AMPLITUDE(1) whether or not order 1 is listed (R85). -/
def WindowView.fundamental (w : WindowView) (k : ChanKind) : Option Nat := do
  let c ← w.phase k
  let xs ← w.samples c
  some (amplitudeOf 1 xs)

/-- The fundamentals of several phases, all needed (R85). -/
def WindowView.fundamentals (w : WindowView) : List ChanKind → Option (List Nat)
  | [] => some []
  | k :: ks => do
    let a ← w.fundamental k
    let rest ← w.fundamentals ks
    some (a :: rest)

/-- Sum of a list of numbers. -/
def sumNat (xs : List Nat) : Nat := xs.foldl (· + ·) 0

/-- RIPPLE_RATIO of filled samples (R84). -/
def rippleOf (xs : List Int) : Option Int :=
  let m := (meanOf xs).natAbs
  if m < 328 then none else some (sat (1000 * peakToPeakOf xs / m))

/-- THD of filled samples over the available orders of 2 or more (R84). -/
def thdOf (orders : List Nat) (xs : List Int) : Option Int :=
  let a1 := amplitudeOf 1 xs
  if !orders.contains 1 || a1 == 0 then none
  else
    let squares := (orders.filter (fun h => decide (2 ≤ h))).map (fun h => amplitudeOf h xs ^ 2)
    some (sat (isqrt (1000000 * sumNat squares) / a1))

/-- PHASE_IMBALANCE of three fundamentals (R85): the largest deviation from their average, per mille of it. -/
def imbalanceOf (as : List Nat) : Option Int :=
  let total := sumNat as
  if total = 0 then none
  else
    let worst := (as.map (fun (a : Nat) => (3 * (a : Int) - (total : Int)).natAbs)).foldl max 0
    some (sat (1000 * worst / total))

/-- BRIDGE_BALANCE of the sums of the two bridges' fundamentals (R85). -/
def balanceOf (sa sb : Nat) : Option Int :=
  if sa + sb = 0 then none
  else some (sat (2000 * ((sa : Int) - (sb : Int)).natAbs / (sa + sb)))

/-- The value of a measure of the window, or none where it is unavailable (R80 to R86). -/
def WindowView.measure (w : WindowView) (r : MeasureRef) : Option Int :=
  if !w.bank.suits w.group r then none
  else
    match w.samples r.chan with
    | none => none
    | some xs =>
      match r.metric with
      | .mean => some (meanOf xs)
      | .rms => some (sat (rmsOf xs))
      | .peakToPeak => some (sat (peakToPeakOf xs))
      | .amplitude => if w.orders.contains r.order then some (sat (amplitudeOf r.order xs)) else none
      | .rippleRatio => rippleOf xs
      | .thd => thdOf w.orders xs
      | .phaseImbalance =>
        (match w.bank.kindOf w.group r.chan with
         | some k => (w.fundamentals k.bridge).bind imbalanceOf
         | none => none)
      | .bridgeBalance => do
        let as ← w.fundamentals bridgeA
        let bs ← w.fundamentals bridgeB
        balanceOf (sumNat as) (sumNat bs)

end Sys2Proof.Machine
end

