-- ==== Sys2Proof/Machine/Links.lean ====
section
/-! DEFINITION. The link ports (chapter 1): transmission, bring-up, leaving UP, and the Source Table's answer to the
loss of Port S (R40). -/

namespace Sys2Proof.Machine

/-! ## The state of one port -/

namespace PortState

/-- The phase a port that is not UP sends (R1); in UP its idle fill. -/
def ownControl (x : PortState) : Option Control :=
  match x.link with
  | .down => none
  | .seek => some .seek
  | .align => some .align
  | .confirm => some .confirm
  | .up => some .up

/-- The port's own link control frame put in transmission, or silence in DOWN (R1). -/
def sendOwn (x : PortState) (src : Addr) : PortState :=
  { x with tx := x.ownControl.map (fun v => ⟨.control, controlFrame src v⟩) }

/-- A silent transmitter starts the port's own frame; a frame in transmission completes first (R1). -/
def startOwn (x : PortState) (src : Addr) : PortState := if x.tx.isNone then x.sendOwn src else x

/-- Entry into SEEK (R2): `early` is set when a good SEEK frame brought the port here; leaving DOWN stops the retry
timer (R8). -/
def enterSeek (x : PortState) (src : Addr) (attempt early : Bool) : PortState :=
  { x with link := .seek, phase := some 0, early := early, attempt := attempt, settle := none, retry := none }.startOwn src

/-- Entry into ALIGN (R3); an attempt that reaches ALIGN clears attempt (R8). -/
def enterAlign (x : PortState) : PortState :=
  { x with link := .align, phase := some 0, early := false, attempt := false }

/-- Entry into CONFIRM (R4). -/
def enterConfirm (x : PortState) : PortState :=
  { x with link := .confirm, phase := some 0, early := false, settle := none }

/-- Entry into UP (R5). -/
def enterUp (x : PortState) : PortState :=
  { x with link := .up, badRun := 0, phase := none, settle := none, retry := none }

/-- Entry into DOWN with the given retry timer (R8, log 8). -/
def enterDown (x : PortState) (retry : Option Nat) : PortState :=
  { x with link := .down, phase := none, early := false, attempt := false, settle := none, retry := retry }

/-- The phase timer has reached the phase minimum (1.2). -/
def pastMinimum (x : PortState) : Bool := decide (Config.phaseMinimum ≤ x.phase.getD 0)

/-- A qualifying frame in SEEK or ALIGN: the next phase at once at or after the minimum, early arrival before (R2,
R3). -/
def advanceOrEarly (x : PortState) (next : PortState → PortState) : PortState :=
  if x.pastMinimum then next x else { x with early := true }

/-- The deadline of the current phase (R2 to R4). -/
def deadline (x : PortState) : Nat :=
  if x.link == .seek && x.attempt then Config.attemptDeadline else Config.phaseDeadline

/-- The consecutive bad-check count zeroed by a good frame in UP (R5). -/
def goodInUp (x : PortState) : PortState := if x.link == .up then { x with badRun := 0 } else x

/-- The port transmits the DONE reply of a RESET_PART request (R17). -/
def sendsResetPart (x : PortState) : Bool :=
  match x.tx with
  | some f => f.sort == .report true
  | none => false

/-- The port transmits a propagated reset mark (R15, R17). -/
def sendsMark (x : PortState) : Bool :=
  match x.tx with
  | some f => f.sort == .mark
  | none => false

end PortState

/-! ## The Source Table -/

/-- A TRACKING entry made STALE: its timer stops and its expected sequence is kept (R38, R40). -/
def SourceEntry.goStale (e : SourceEntry) : SourceEntry :=
  if e.state == .tracking then { e with state := .stale, timer := none } else e

namespace State

/-- A port changed by a function of its state. -/
def modPort (s : State) (p : Port) (f : PortState → PortState) : State := s.setPort p (f (s.port p))

/-- PRESENCE made owed, or no longer owed (R10). -/
def setOwed (s : State) (b : Bool) : State := s.setLinks { s.links with presenceOwed := b }

/-- Entry of a port into UP; on Port C a PRESENCE frame becomes owed (R5, R10). -/
def enterUp (s : State) (p : Port) : State :=
  let s1 := s.modPort p PortState.enterUp
  match p with
  | .s => s1
  | .c => s1.setOwed true

/-! ## The loss of Port S at the Source Table (R40) -/

/-- Every TRACKING entry for which p holds becomes STALE; SOURCE_LOST is raised when there is one, and the change is
made known to the Window Engine (R38, R40, R41). -/
def staleWhere (s : State) (p : SourceEntry → Bool) : State :=
  let old := s.sources
  let hit := fun (e : SourceEntry) => e.state == .tracking && p e
  if old.toList.any hit then
    let s1 := (s.setSources (vmap (fun e => if hit e then e.goStale else e) old)).raise .sourceLost
    s1.nodesLost (fun n => hit old[n])
  else s

/-- A port leaves UP (R7): LINK_DOWN, its frame in transmission cut off, its neighbours told. The caller enters the
next link state. -/
def leaveUp (s : State) (p : Port) : State :=
  let s1 := (s.raise .linkDown).modPort p (fun x => { x with tx := none })
  match p with
  | .s => s1.staleWhere (fun _ => true)
  | .c => (s1.setFwd { s1.fwd with sToC := [] }).setOwed false

end State
end Sys2Proof.Machine
end

