-- ==== Sys2Proof/Machine/Control.lean ====
section
/-! DEFINITION. Commit control, hold control and the two resets (chapter 10 sections 10.4, 10.5, 10.9; R12, R13, R15,
R17, R33, R43, R74, R76, R109, R124, R149, R165, R181, R208): what outlasts a single request, and how events end. -/

namespace Sys2Proof.Machine
namespace State

/-! ## Hold control -/

/-- Some descriptor of some group is SETTLING, QUEUED or EVALUATING (R183). -/
def anyInFlight (s : State) : Bool :=
  s.ana.groups.toList.any (fun x => x.inFlight || (x.descIn .settling).isSome)

/-- A hold in HOLDING becomes EFFECTIVE when nothing from before it is in flight (R183). -/
def judgeHold (s : State) : State :=
  match s.mgmt.hold with
  | some h =>
    if !h.effective && !s.anyInFlight then
      (s.setMgmt { s.mgmt with hold := some { h with effective := true } }).offerMarker .holdEffective
    else s
  | none => s

/-- The end of a hold: FREE, a waiting HOLD_EFFECTIVE withdrawn, HOLD_ENDED offered (R184, R185). -/
def endHold (s : State) (h : Hold) (cause : HoldCause) : State :=
  let never := !h.effective || s.effectiveWaits
  let s1 := s.setMgmt { s.mgmt with hold := none }
  let s2 := s1.setRep { s1.rep with waiting := s1.rep.waiting.filter (fun w => w != .marker .holdEffective) }
  s2.offerMarker (.holdEnded cause never)

/-! ## Completion (R176, R177) -/

/-- Some live descriptor of some group carries the given generation tag (R176). -/
def tagLive (s : State) (gen : Gen) : Bool :=
  s.ana.groups.toList.any (fun x => all3.any (fun d => x.descs[d].live && x.descs[d].tag == gen))

/-- A PENDING commit completes: every group switched and no window of the old generation live (R176). -/
def commitReady (s : State) : Bool :=
  match s.mgmt.commit with
  | some c => c.switched == 0xFF#8 && !s.tagLive s.mgmt.activeGen
  | none => false

/-- The Management Unit's and the Check Unit's own part of a completion (R106, R177). -/
def adoptStaging (s : State) (c : Commit) : State :=
  let s1 := s.setMgmt { s.mgmt with active := s.mgmt.staging, activeGen := c.stagingGen, commit := none }
  s1.setChk { s1.chk with active := s1.chk.staging.getD s1.chk.active, staging := none }

/-- Port S takes a changed enable, and the C-to-S forward buffer follows it (R9, R28). -/
def applyEnable (s : State) (was : Bool) : State :=
  let now := s.settings.portSEnable
  if was && !now then
    let s1 := if s.isUp .s then s.leaveUp .s else s
    let s2 := s1.modPort .s (fun x => x.enterDown none)
    s2.setFwd { s2.fwd with cToS := [] }
  else if !was && now then s.modPort .s (fun x => x.enterSeek s.partAddr false false)
  else s

/-- Running stale timers judged against the stale timeout now active (R38). -/
def judgeStaleTimers (s : State) : State :=
  s.staleWhere (fun e => decide (s.settings.staleMs * Config.unitsPerMs ≤ e.timer.getD 0))

/-- A PRESENCE frame owed when the completion changed the part address and Port C is UP (R11). -/
def owePresence (s : State) (was : Addr) : State :=
  if s.partAddr != was && s.isUp .c then s.setOwed true else s

/-- What the other blocks take from a completion that replaced the given Part Settings (R177). -/
def applySettings (s : State) (old : Settings) : State :=
  ((s.applyEnable old.portSEnable).judgeStaleTimers).owePresence old.partAddr

/-- The completion of a commit (R177). -/
def complete (s : State) : State :=
  match s.mgmt.commit with
  | some c =>
    (((s.adoptStaging c).offerMarker (.commitDone c.stagingGen c.forced))).applySettings s.settings
  | none => s

/-! ## The two resets -/

/-- A refused mark's event, raised once the interval it was held back in has ended by a reset (R14, R129; logs 13, 35). -/
def raiseDeferred (s : State) (deferred : Bool) : State := if deferred then s.raise .resetMarkRefused else s

/-- A full reset takes effect (R12, R33, R43, R74, R76, R110, R125, R150, R166, R193, R209; log 33). A refusal held back
in the interval of a mark or of a propagating restart is raised after it also where the full reset is that of RESET_PART
and not the one the interval waits for: the spec does not say, and this is the model's choice (log 35). -/
def takeFullReset (s : State) (cause : ResetCause) : State :=
  (State.fullReset s.pending s.pins.straps s.links.mask cause).raiseDeferred s.links.refusalDeferred

/-- Every group whose switched flag is clear switches, and each counts as forced (R181). -/
def switchRemaining (s : State) : State :=
  all8.foldl (fun s g =>
    if s.switchPending g then
      let s1 := s.switchGroup g
      s1.setMgmt { s1.mgmt with commit := s1.mgmt.commit.map (fun c => { c with forced := c.forced + 1 }) }
    else s) s

/-- The blocks' own values after an Analysis Restart (R33, R43, R74, R76, R109, R124, R149, R165, R194, R208). -/
def restartBlocks (s : State) : State where
  pending := s.pending
  pins := { s.pins with alert := false }
  links := { s.links with markReset := none, refusalDeferred := false }
  fwd := { s.fwd with sToC := [], cToS := [] }
  sources := Vector.replicate 16 SourceEntry.reset
  ana :=
    { groups := vmap (fun p => GroupCtx.reset (if p.enabled then .seeking else .off) s.mgmt.activeGen)
        s.mgmt.active.plans
      queue := []
      engine := none
      lastVerdicts := Vector.replicate 8 none }
  chk := ⟨Vector.replicate 96 .clear, none, Vector.replicate 8 0⟩
  latches := Vector.replicate 8 none
  disp := s.disp.restart
  rep := ReportQueue.reset
  mgmt := { s.mgmt with request := none, restartMark := false, hold := none }
  snap := SnapshotUnit.reset

/-- The DONE reply of the RESTART_ANALYSIS request that caused the restart (R191). -/
def answerRestart (s : State) : Option Request → State
  | some r => s.answer r .done []
  | none => s

/-- An Analysis Restart takes effect (R13): a PENDING commit completes first with every group switched (R181), the
blocks take their values, then the owed records enter in order: COMMIT_DONE, and the reply to the request that caused
the restart (R165, R191; logs 11 and 25). -/
def takeRestart (s : State) (causing : Option Request) : State :=
  let deferred := s.links.refusalDeferred
  match s.switchRemaining.mgmt.commit with
  | some c =>
    let s1 := (s.switchRemaining.adoptStaging c).applySettings s.settings
    (((s1.restartBlocks).offerMarker (.commitDone c.stagingGen c.forced)).answerRestart causing).raiseDeferred deferred
  | none => ((s.restartBlocks).answerRestart causing).raiseDeferred deferred

/-- The reset of an accepted mark (R12, R15). -/
def takeMarkReset (s : State) (m : MarkReset) : State :=
  match m.mark with
  | .stationMark =>
    s.takeFullReset (match m.arrival with
      | .s => .stationMarkS
      | .c => .stationMarkC)
  | .sectionMark => s.takeRestart none

/-- The reset whose mark can no longer be sent, because the port it leaves by is not UP (R15, R17; log 34). It comes at
the end of the event, so what the leaving raised is cleared by it: the order R129 leaves open (log 36). -/
def resetIfCutOff (s : State) : State :=
  match s.links.markReset with
  | some m => if s.isUp m.arrival.other then s else s.takeMarkReset m
  | none => if s.mgmt.restartMark && !s.isUp .s then s.takeRestart s.mgmt.request else s

/-! ## The end of an event -/

/-- The judgements an event closes with (log 18): the hold's effective condition (R183), a commit's completion (R176)
with the hold judged again on what it changed, and a reset whose mark was cut off (R15). -/
def finish (s : State) : State :=
  let s1 := s.judgeHold
  let s2 := if s1.commitReady then s1.complete.judgeHold else s1
  s2.resetIfCutOff

/-! ## The acceptance and the timeout of a commit (R178, R180) -/

/-- A group switches at the acceptance of a COMMIT, by its state (R71). -/
def acceptSwitch (s : State) (g : Group) : State :=
  match (s.group g).state with
  | .off => (s.switchGroup g).takeSeekOrOff g
  | .seeking => (s.switchGroup g).takeSeekOrOff g
  | .blind => (s.switchGroup g).takeSeekOrOff g
  | .quiesced => s.switchGroup g
  | .tracking => s
  | .quiescing => s

/-- Steps 1 to 4 of the acceptance of a COMMIT (R104, R178). -/
def acceptCommit (s : State) : State :=
  let c : Commit := ⟨s.mgmt.activeGen + 1, 0, some 0, s.settings.commitMs, 0⟩
  let s1 := s.setMgmt { s.mgmt with commit := some c }
  let s2 := s1.setChk { s1.chk with staging := some (Vector.replicate 96 .clear) }
  all8.foldl acceptSwitch s2

/-- A group not yet switched is forced at the commit timeout (R73). -/
def forceSwitch (s : State) (g : Group) : State :=
  if s.switchPending g then
    if (s.group g).state == .tracking then ((s.discardOpen g).switchGroup g).takeSeekOrOff g
    else s.switchGroup g
  else s

/-- The old-tag SETTLING and QUEUED descriptors of a group discarded to FREE, withdrawn from the queue (R73). -/
def discardOld (gen : Gen) (s : State) (g : Group) : State :=
  all3.foldl (fun s d =>
    let w := (s.group g).descs[d]
    if w.tag == gen && (w.state == .settling || w.state == .queued) then
      let s1 := s.freeDesc ⟨g, d⟩
      s1.setAna { s1.ana with queue := s1.ana.queue.erase ⟨g, d⟩ }
    else s) s

/-- How many groups have their switched flag clear (R180). -/
def unswitched (s : State) : Nat := (all8.filter (fun g => s.switchPending g)).length

/-- The commit timeout expires: forced switches, old-tag windows discarded, COMMIT_FORCED, the timer stopped; then
QUIESCING groups are judged (R69, R73, R180; log 19). The switches come before the discards, so the cells of a forced
group's discarded windows survive its entry into SEEKING: the model's choice (log 40). -/
def forceCommit (s : State) : State :=
  let gen := s.mgmt.activeGen
  let n := s.unswitched
  let s1 := all8.foldl forceSwitch s
  let s2 := (all8.foldl (discardOld gen) s1).raise .commitForced
  let s3 := s2.setMgmt
    { s2.mgmt with commit := s2.mgmt.commit.map (fun c => { c with forced := n, timer := none }) }
  all8.foldl judgeQuiesced s3.judgeHold

end State
end Sys2Proof.Machine
end

