-- ==== Sys2Proof/Machine/Snapshot.lean ====
section
/-! DEFINITION. The Snapshot Unit (chapter 11): the trigger, the copy, and the data of READ_SNAPSHOT. -/

namespace Sys2Proof.Machine

/-- Window w is later than the arming number a (R197). -/
def laterThan (w a : Half) : Bool := decide (1 ≤ (w - a).toNat ∧ (w - a).toNat ≤ 32767)

/-- The trigger of an arming is met by an ended window with the given indications (R198). -/
def Arming.met (a : Arming) (number : Half) (raised latchSet : Bool) : Bool :=
  match a.trigger with
  | .nextWindow => laterThan number a.number
  | .nextEven => laterThan number a.number && !number.getLsbD 0
  | .nextOdd => laterThan number a.number && number.getLsbD 0
  | .onDiagnosis => latchSet
  | .onLimit => raised

/-- The cell of a channel of the window for the row n: its sample where one is present, missing otherwise (R199). -/
def copyCell (bank : Bank) (w : WinRef) (d : Descriptor) (store : Vector Cells 8) (n : Nat) : Option Chan → Option Int
  | some c =>
    if bank.mapped w.group c && decide (n < d.len.getD 0) then present? store[c] (d.start + BitVec.ofNat 16 n) else none
  | none => none

/-- The copy of a window's samples, column by column of the channel list (R199). -/
def copyWindow (bank : Bank) (w : WinRef) (d : Descriptor) (store : Vector Cells 8) (chans : List Chan) :
    Vector SnapRow 192 :=
  vtab 192 (fun n => vtab 4 (fun k => copyCell bank w d store n chans[k]?))

/-- The present flags of a row, over the columns of the channel list (R204). -/
def presentFlags (row : SnapRow) (columns : Nat) : Nat :=
  ((List.range columns).map (fun k => if ((row.toList.getD k none).isSome) then 2 ^ k else 0)).foldl (· + ·) 0

/-- A row of a READ_SNAPSHOT reply (R204). -/
def encodeRow (row : SnapRow) (columns : Nat) : List Byte :=
  byte (presentFlags row columns) ::
    (List.range columns).flatMap (fun k => beInt ((row.toList.getD k none).getD 0))

/-- How many rows a READ_SNAPSHOT returns (R204). -/
def rowsReturned (len offset count : Nat) : Nat := min count (len - offset)

/-- The data of a READ_SNAPSHOT reply (R204). -/
def snapshotData (a : Arming) (h : CaptureHeader) (buffer : Vector SnapRow 192) (offset count : Nat) : List Byte :=
  [byte a.group.val] ++ be16 h.window ++ be16 h.start ++ [byte h.len, h.outcome.code] ++ be16 h.tag
    ++ [a.trigger.code, byte a.chans.length] ++ a.chans.map (fun c => byte c.val)
    ++ [byte offset, byte (rowsReturned h.len offset count)]
    ++ ((buffer.toList.drop offset).take (rowsReturned h.len offset count)).flatMap
        (fun row => encodeRow row a.chans.length)

/-- The snapshot state as READ_STATUS gives it (R188). -/
def SnapState.code : SnapState → Byte
  | .empty => 0
  | .armed _ => 1
  | .ready _ _ => 2

namespace State

/-- The capture of a window that met the trigger, with its READY marker (R199, R200). -/
def takeCapture (s : State) (a : Arming) (w : WinRef) (d : Descriptor) (outcome : WinOutcome) : State :=
  (s.setSnap
    ⟨.ready a ⟨d.number, d.start, d.len.getD 0, outcome, d.tag⟩,
      copyWindow (s.bankOf d.tag) w d (s.group w.group).store a.chans⟩).offerMarker (.snapshot true)

/-- Step 4 of the end of an evaluation: the Snapshot Unit is told of the window (R198). -/
def tellSnapshot (s : State) (w : WinRef) (d : Descriptor) (outcome : WinOutcome) (raised latchSet : Bool) : State :=
  match s.snap.state with
  | .armed a => if a.group == w.group && a.met d.number raised latchSet then s.takeCapture a w d outcome else s
  | .empty => s
  | .ready _ _ => s

end State
end Sys2Proof.Machine
end

