-- ==== Sys2Proof/Machine/Evaluation.lean ====
section
/-! DEFINITION. The end of an evaluation (R88 to R91): the outcome and the five steps of the hand-off. -/

namespace Sys2Proof.Machine

/-! ## The outcome (R88) -/

/-- Some channel of the window misses more ticks than the gap tolerance (R88). -/
def WindowView.incomplete (v : WindowView) (d : Descriptor) : Bool :=
  (v.bank.channels v.group).any (fun c =>
    decide (((v.bank.plans[v.group].tolerance : Nat) : Int) < (v.len : Int) - ((d.received[c] : Nat) : Int)))

/-- The conduction channel's MEAN is below the threshold or unavailable (R88). -/
def WindowView.idle (v : WindowView) : Bool :=
  match v.measure ⟨v.bank.plans[v.group].condChan, .mean, 0⟩ with
  | some m => decide (m < v.bank.plans[v.group].level.threshold)
  | none => true

/-- The outcome of a window whose group now has the given generation (R88). -/
def WindowView.outcome (v : WindowView) (d : Descriptor) (gen : Gen) : WinOutcome :=
  if d.tag != gen then .stalePlan
  else if v.incomplete d then .incomplete
  else if v.idle then .idle
  else .checked

/-! ## Step 1: stepping (R95 to R100) -/

/-- What stepping raises: the kind and its detail, in the order of the entries (R97). -/
abbrev Raisings := List (DetailKind × Detail)

/-- The state of one entry after the window (R98, R99). -/
def LimitEntry.stepped (e : LimitEntry) (v : WindowView) (st : LimitState) : LimitState :=
  if e.valid && e.group == v.group then
    match v.measure e.ref with
    | some x => e.move st (e.classify x)
    | none => st
  else st

/-- The states of a table's entries after the window (R98). -/
def steppedStates (v : WindowView) (entries : Vector LimitEntry 96) (states : Vector LimitState 96) :
    Vector LimitState 96 :=
  vzip (fun e st => e.stepped v st) entries states

/-- What one entry raises as the window steps it (R97). -/
def LimitEntry.raising (e : LimitEntry) (v : WindowView) (number : Half) (i : Nat) (st : LimitState) : Raisings :=
  match moveEvent st (e.stepped v st), v.measure e.ref with
  | some k, some x => [(k, .limit v.group i number x)]
  | _, _ => []

/-- What the entries from index i on raise, in ascending index (R98). -/
def raisings (v : WindowView) (number : Half) : Nat → List LimitEntry → List LimitState → Raisings
  | i, e :: es, st :: sts => e.raising v number i st ++ raisings v number (i + 1) es sts
  | _, _, _ => []

namespace State

/-- Raisings made known to the Event Dispatcher in their order (R97). -/
def raiseAll (s : State) (l : Raisings) : State := l.foldl (fun s r => s.raiseDetail r.1 r.2) s

/-- What step 1 raises for a CHECKED window. -/
def stepRaisings (s : State) (v : WindowView) (number : Half) : Raisings :=
  raisings v number 0 (s.groupBank v.group).limits.toList (s.limitStates v.group).toList

/-- Step 1 for a CHECKED window: entries stepped, vector brought up to date, events raised (R98). -/
def stepLimits (s : State) (v : WindowView) (number : Half) : State :=
  ((s.setLimitStates v.group
      (steppedStates v (s.groupBank v.group).limits (s.limitStates v.group))).refreshVector v.group).raiseAll
    (s.stepRaisings v number)

/-! ## Step 2: matching and the latch (R114, R115) -/

/-- The match of a CHECKED window of group g (R114). -/
def matchOf (s : State) (g : Group) : Option (Nat × Signature) :=
  firstMatch g (s.vector g) 0 (s.groupBank g).signatures.toList

/-- A latch set or replaced by entry i, with its event (R115, R117). -/
def setDiagnosis (s : State) (g : Group) (i : Nat) (e : Signature) (number : Half) : State :=
  (s.setLatch g (some ⟨e.code, e.severity, i, number⟩)).raiseDetail .diagnosisSet
    (.diagnosisSet g e.code e.severity i number)

/-- A latch cleared for want of a match, with its event (R115, R117). -/
def clearDiagnosis (s : State) (g : Group) (old : Diagnosis) (number : Half) : State :=
  (s.setLatch g none).raiseDetail .diagnosisCleared (.diagnosisCleared g old.code number)

/-- The match of a CHECKED window sets or replaces the latch: the set indication (R116). -/
def latchChanges (s : State) (g : Group) : Bool :=
  match s.matchOf g, s.latch g with
  | some (i, _), some d => d.index != i
  | some _, none => true
  | none, _ => false

/-- Step 2 for a CHECKED window (R115). -/
def updateLatch (s : State) (g : Group) (number : Half) : State :=
  match s.matchOf g, s.latch g with
  | some (i, e), some d => if d.index == i then s else s.setDiagnosis g i e number
  | some (i, e), none => s.setDiagnosis g i e number
  | none, some d => s.clearDiagnosis g d number
  | none, none => s

/-! ## Step 3: the verdict (R90, R91, R153) -/

/-- The diagnosis code a verdict of group g carries (R91). -/
def verdictCode (s : State) (g : Group) : Byte :=
  match s.latch g with
  | some d => d.code
  | none => 0

/-- The VERDICT record of a window (R91). -/
def verdictOf (s : State) (v : WindowView) (d : Descriptor) (outcome : WinOutcome) : Verdict :=
  ⟨v.group, d.number, v.start, v.len, outcome, s.vector v.group, s.verdictCode v.group, tripHeld (s.latch v.group),
    none, v.bank.plans[v.group].measures.map (fun r => ⟨r, v.measure r⟩)⟩

/-- The verdict mode of the window's plan calls for a verdict (R90). -/
def verdictDue (s : State) (v : WindowView) : Bool :=
  match v.bank.plans[v.group].mode with
  | .off => false
  | .every => true
  | .onChange => s.ana.lastVerdicts[v.group] != some (s.vector v.group, s.verdictCode v.group)

/-- A verdict offered: it enters and becomes the group's last verdict, or is refused (R90, R153, R154). -/
def offerVerdict (s : State) (v : Verdict) : State :=
  if s.rep.roomForVerdict then
    let s1 := s.setRep (s.rep.enterVerdict s.settings.reportDest v)
    s1.setAna { s1.ana with lastVerdicts := s1.ana.lastVerdicts.set v.group (some (v.vector, v.code)) }
  else (s.setRep s.rep.refuseVerdict).raise .reportDrop

/-- Step 3 of the hand-off (R90). -/
def giveVerdict (s : State) (v : WindowView) (d : Descriptor) (outcome : WinOutcome) : State :=
  if s.verdictDue v then s.offerVerdict (s.verdictOf v d outcome) else s

/-! ## Step 5 and the whole (R89) -/

/-- Step 5: the descriptor becomes FREE, the engine IDLE; hold control and the group are judged, and the engine takes
the next head (R89). -/
def release (s : State) (w : WinRef) : State :=
  let s1 := s.freeDesc w
  let s2 := s1.setAna { s1.ana with engine := none }
  (s2.judgeHold.judgeQuiesced w.group).engineTake

/-- What an EVALUATING window is measured by (4.1, R80). -/
def viewOf (s : State) (w : WinRef) : WindowView :=
  let d := (s.group w.group).descs[w.desc]
  ⟨w.group, s.bankOf d.tag, d.start, d.len.getD 0, (s.group w.group).store⟩

/-- Steps 1 and 2 for a window with the given outcome (R98, R100, R115, R116). -/
def checkWindow (s : State) (v : WindowView) (number : Half) (outcome : WinOutcome) : State :=
  if outcome == .checked then (s.stepLimits v number).updateLatch v.group number else s

/-- The raise indication of a window (R100). -/
def raiseIndication (s : State) (v : WindowView) (number : Half) (outcome : WinOutcome) : Bool :=
  outcome == .checked && (s.stepRaisings v number).any (fun r => r.1 == .limitRaised)

/-- The set indication of a window (R116). -/
def setIndication (s : State) (v : WindowView) (number : Half) (outcome : WinOutcome) : Bool :=
  outcome == .checked && (s.stepLimits v number).latchChanges v.group

/-- The five steps of the end of the evaluation of a window (R89). -/
def handOff (s : State) (w : WinRef) : State :=
  let v := s.viewOf w
  let d := (s.group w.group).descs[w.desc]
  let outcome := v.outcome d (s.group w.group).gen
  let s2 := s.checkWindow v d.number outcome
  let s3 := s2.giveVerdict v d outcome
  let s4 := s3.tellSnapshot w d outcome (s.raiseIndication v d.number outcome) (s.setIndication v d.number outcome)
  s4.release w

/-- The evaluation timer reaches the duration (R78, R89); an idle engine ends nothing. -/
def endEvaluation (s : State) : State :=
  match s.ana.engine with
  | some e => (s.handOff e.win).finish
  | none => s

end State
end Sys2Proof.Machine
end

