-- ==== Sys2Proof/Machine/Sources.lean ====
section
/-! DEFINITION. The Source Tracker and the Channel Mapper (chapter 3): judging a sample frame, scaling and delivering
its samples. -/

namespace Sys2Proof.Machine

/-! ## Judging a frame (R35 to R39) -/

/-- The judgement of a sample frame by its sequence (R35, R36, R39). -/
inductive Judgement where
  /-- Accepted with no gap: in order, or adopted in SILENT or STALE. -/
  | inOrder
  /-- Accepted, with this many frames found missing (R37). -/
  | gap (missed : Nat)
  | duplicate
  | outOfOrder
  deriving DecidableEq, Repr

/-- The judgement of sequence n against an entry (R35, R36, R39). -/
def SourceEntry.judge (e : SourceEntry) (n : Byte) : Judgement :=
  match e.state, e.expected with
  | .tracking, some x =>
    let g := (n - x).toNat
    if g = 0 then .inOrder
    else if g ≤ 127 then .gap g
    else if g = 255 then .duplicate
    else .outOfOrder
  | _, _ => .inOrder

/-- An entry that has accepted sequence n (R35, R36, R39). -/
def SourceEntry.accept (e : SourceEntry) (n : Byte) : SourceEntry :=
  { e with state := .tracking, expected := some (n + 1), timer := some 0 }

/-- The entry after a frame with sequence n (R36). -/
def SourceEntry.judged (e : SourceEntry) (n : Byte) : SourceEntry :=
  match e.judge n with
  | .inOrder => e.accept n
  | .gap g => { e.accept n with missed := satAdd e.missed g }
  | .duplicate => { e with duplicates := satAdd e.duplicates 1 }
  | .outOfOrder => { e with outOfOrder := satAdd e.outOfOrder 1 }

/-- A frame is accepted for analysis (R36). -/
def Judgement.accepted : Judgement → Bool
  | .inOrder => true
  | .gap _ => true
  | .duplicate => false
  | .outOfOrder => false

/-! ## Mapping and scaling (R48 to R50) -/

/-- A raw value scaled by an entry (R49). -/
def MapEntry.scale (e : MapEntry) (raw : Int) : Int := clampFull (Int.tdiv ((raw - e.offset) * e.gain) 4096)

/-- A channel sample (R50). -/
structure ChannelSample where
  group : Group
  chan : Chan
  tick : Tick
  value : Int
  deriving DecidableEq, Repr

/-- The valid entry of a bank for a slot of a node, if any (R48). -/
def Bank.slotEntry (b : Bank) (n : Node) (slot : Nat) : Option MapEntry :=
  b.channelMap.toList.find? (fun e => e.valid && e.node == n && e.slot.val == slot)

namespace State

/-- The entries that deliver a slot of a node: the Active one of a group that has not switched, the Staging one of a
group that has (R48). -/
def deliverers (s : State) (n : Node) (slot : Nat) : List MapEntry :=
  (s.mgmt.active.slotEntry n slot).toList.filter (fun e => !s.readsStaging e.group) ++
    (s.mgmt.staging.slotEntry n slot).toList.filter (fun e => s.readsStaging e.group)

/-- The channel samples of a sample payload of a node, in the order of the frame's values (R48 to R50). -/
def deliveries (s : State) (n : Node) (p : List Byte) : List ChannelSample :=
  (List.range (tickCount p)).flatMap (fun i =>
    (List.range (slotCount p)).flatMap (fun slot =>
      (s.deliverers n slot).map (fun e =>
        ⟨e.group, e.chan, firstTick p + BitVec.ofNat 16 i, e.scale (rawValue p i slot)⟩)))

/-- A channel sample taken by the Window Engine, and what its event closes with (R56, log 18): each sample of a frame is an
event of its own, so a completion or a restart it brings comes before the frame's next sample (log 39). -/
def takeChannelSample (s : State) (x : ChannelSample) : State :=
  (s.takeSample x.group x.chan x.tick x.value).finish

/-- The samples of an accepted frame handed over; their assignments are those that stand at the acceptance (R51), also for
samples behind one that completes a commit or brings a restart (log 39). -/
def deliver (s : State) (n : Node) (p : List Byte) : State := (s.deliveries n p).foldl takeChannelSample s

/-- The entry of a node replaced. -/
def setSource (s : State) (n : Node) (e : SourceEntry) : State := s.setSources (s.sources.set n e)

/-- The gap of a frame reported (R37). -/
def reportGap (s : State) (n : Node) (seq : Byte) : Judgement → State
  | .gap g => s.raiseDetail .sourceGap (.sourceGap n seq g)
  | .inOrder => s
  | .duplicate => s
  | .outOfOrder => s

/-- A sample frame of a node at the Source Tracker, with its delivery when it is accepted (R35 to R39, R48). -/
def track (s : State) (n : Node) (seq : Byte) (p : List Byte) : State :=
  let j := s.sources[n].judge seq
  let s1 := (s.setSource n (s.sources[n].judged seq)).reportGap n seq j
  if j.accepted then s1.deliver n p else s1

/-- The stale timer of a TRACKING entry reaches the stale timeout (R38, R41). -/
def staleTimeout (s : State) (n : Node) : State :=
  if s.sources[n].state == .tracking then
    (((s.setSource n s.sources[n].goStale).raise .sourceLost).nodesLost (fun m => m == n)).finish
  else s

end State
end Sys2Proof.Machine
end

