-- ==== Sys2Proof/Machine/Transmit.lean ====
section
/-! DEFINITION. The transmitters (R1, R10, R20, R29 to R32): what a port hands to its transmitter when a frame ends, and
the end of the frames that resets wait for. -/

namespace Sys2Proof.Machine
namespace State

/-- The frame in transmission on a port replaced. -/
def setTx (s : State) (p : Port) (f : Option TxFrame) : State := s.modPort p (fun x => { x with tx := f })

/-- The port's own link control frame, or silence in DOWN, put in transmission (R1). -/
def sendControl (s : State) (p : Port) : State := s.modPort p (fun x => x.sendOwn s.partAddr)

/-- A frame with the Port C transmit sequence handed to the Port C transmitter; the count increases (R20). -/
def handOut (s : State) (sort : TxSort) (kind : Byte) (dest : Addr) (body : List Byte) : State :=
  (s.setTx .c (some ⟨sort, buildFrame kind dest s.partAddr s.fwd.txSeq body⟩)).setFwd
    { s.fwd with txSeq := s.fwd.txSeq + 1 }

/-- The payload of PRESENCE (R10, 2.1.1). -/
def presenceBody (s : State) : List Byte :=
  be16 Config.familyCode ++ [Config.revision, addrByte s.partAddr, s.links.cause.code]

/-- The owed PRESENCE frame handed to the Port C transmitter (R10). -/
def sendPresence (s : State) : State := (s.handOut .presence kindPresence 63 s.presenceBody).setOwed false

/-- A source of the C-out Arbiter is ready (R30). -/
def ready (s : State) : Source → Bool
  | .forward => !s.fwd.sToC.isEmpty
  | .report => !s.rep.records.isEmpty
  | .event => s.disp.slot.isSome

/-- The sources in cyclic order from the one after the last granted (R30, R31). -/
def grantOrder : Source → List Source
  | .forward => [.report, .event, .forward]
  | .report => [.event, .forward, .report]
  | .event => [.forward, .report, .event]

/-- The source a grant goes to, if any is ready (R31). -/
def granted (s : State) : Option Source := (grantOrder s.fwd.lastGranted).find? s.ready

/-- A grant of FORWARD: the head frame leaves its buffer unchanged (R25, R30). -/
def grantForward (s : State) : State :=
  match s.fwd.sToC with
  | f :: rest => (s.setTx .c (some ⟨.forwarded, f⟩)).setFwd { s.fwd with sToC := rest, lastGranted := .forward }
  | [] => s

/-- A grant of REPORT: a frame carrying the head record, which leaves the queue (R32, R158, R160). -/
def grantReport (s : State) : State :=
  match s.rep.records with
  | h :: _ =>
    let s1 := s.setFwd { s.fwd with lastGranted := .report }
    (s1.handOut (.report h.record.isResetPartDone) kindReport h.dest h.record.encode).dropHead
  | [] => s

/-- A grant of EVENT: the frame in the output slot, which empties (R30, R32, R141). -/
def grantEvent (s : State) : State :=
  match s.disp.slot with
  | some f =>
    let s1 := s.setFwd { s.fwd with lastGranted := .event }
    (s1.handOut .event kindEvent f.dest f.encode).setDisp (s.disp.handOver f)
  | none => s

/-- A grant made by the C-out Arbiter, or idle fill where no source is ready (R31). -/
def grant (s : State) : State :=
  match s.granted with
  | some .forward => s.grantForward
  | some .report => s.grantReport
  | some .event => s.grantEvent
  | none => s.sendControl .c

/-- The next frame of Port C (R1, R10, R31). -/
def nextC (s : State) : State :=
  if s.isUp .c then
    if s.links.presenceOwed then s.sendPresence
    else if s.links.markReset.isSome then s.sendControl .c
    else s.grant
  else s.sendControl .c

/-- The next frame of Port S (R1, R29). -/
def nextS (s : State) : State :=
  if s.isUp .s && s.links.markReset.isNone then
    match s.fwd.cToS with
    | f :: rest => (s.setTx .s (some ⟨.forwarded, f⟩)).setFwd { s.fwd with cToS := rest }
    | [] => s.sendControl .s
  else s.sendControl .s

/-- The next frame of a port. -/
def nextFrame (s : State) : Port → State
  | .s => s.nextS
  | .c => s.nextC

/-- The frame that follows on the port of a mark once its reset has taken effect: none after a full reset, which has
put a SEEK frame there (R12, R13, log 25). -/
def afterMark (s : State) (m : Mark) (p : Port) : State :=
  match m with
  | .stationMark => s
  | .sectionMark => s.nextFrame p

/-- The end of a propagated mark's transmission: the reset it waits for takes effect (R15, R17). -/
def markEnds (s : State) : State :=
  match s.links.markReset with
  | some m =>
    if (s.port m.arrival.other).sendsMark then (s.takeMarkReset m).afterMark m.mark m.arrival.other else s
  | none =>
    if s.mgmt.restartMark && (s.port .s).sendsMark then (s.takeRestart s.mgmt.request).nextS else s

/-- The end of the frame in transmission on Port C; silence ends nothing (R31, R15, R17). -/
def endFrameC (s : State) : State :=
  match (s.port .c).tx with
  | none => s
  | some f =>
    match f.sort with
    | .mark => s.markEnds
    | .report true => s.takeFullReset .resetRequest
    | .report false => s.nextC
    | .control => s.nextC
    | .presence => s.nextC
    | .forwarded => s.nextC
    | .event => s.nextC

/-- The end of the frame in transmission on Port S (R29, R15, R17). -/
def endFrameS (s : State) : State :=
  match (s.port .s).tx with
  | none => s
  | some f => if f.sort == .mark then s.markEnds else s.nextS

/-- The REPORT frame carrying the DONE reply of a RESET_PART request completes (R17). -/
def endResetPartReply (s : State) : State :=
  if (s.port .c).sendsResetPart then s.takeFullReset .resetRequest else s

end State
end Sys2Proof.Machine
end

