-- ==== Sys2Proof/Machine/Receive.lean ====
section
/-! DEFINITION. The receivers (R2 to R8, R14, R15, R19): link control frames, bad checks, loss of signal, reset marks,
and the timer events of bring-up. -/

namespace Sys2Proof.Machine
namespace State

/-- The rest of a port's leaving UP, its next state entered: the RESET_PART reset a cut-off reply brings, or the end of
the event (R15, R17). -/
def afterLeaving (s : State) (cutReply : Bool) : State :=
  if cutReply then s.takeFullReset .resetRequest else s.finish

/-- A port in UP leaves it for DOWN, the retry timer restarted (R6 to R8). LINK_DOWN and what else the leaving raises come
before a reset that the leaving makes take effect (R129, log 36). -/
def linkLoss (s : State) (p : Port) : State :=
  ((s.leaveUp p).modPort p (fun x => x.enterDown (some 0))).afterLeaving (s.port p).sendsResetPart

/-- A port in UP receives a good SEEK frame: it leaves UP and enters SEEK (R5); what the leaving raises comes before a
reset that it makes take effect (R129, log 36). -/
def partnerSeeks (s : State) (p : Port) : State :=
  ((s.leaveUp p).modPort p (fun x => x.enterSeek s.partAddr false true)).afterLeaving (s.port p).sendsResetPart

/-! ## Bad checks and loss of signal (R6) -/

/-- A frame with a bad check is counted (R6). -/
def countBad (s : State) (p : Port) : State := s.modPort p (fun x => { x with badCount := satAdd x.badCount 1 })

/-- A frame with a bad check on a port (R6, R9, R12; log 10). -/
def badCheck (s : State) (p : Port) : State :=
  if s.isHeld || s.portDisabled p then s
  else
    let s1 := s.countBad p
    if s1.isUp p then
      let s2 := s1.modPort p (fun x => { x with badRun := x.badRun + 1 })
      if Config.linkLossCount ≤ (s2.port p).badRun then s2.linkLoss p else s2
    else s1

/-- Loss of signal on a port (R6). -/
def signalLost (s : State) (p : Port) : State :=
  if s.isHeld then s else if s.isUp p then s.linkLoss p else s

/-! ## Reset marks (R14, R15) -/

/-- The active reset accept field of an arrival port (R14). -/
def accepts (s : State) : Port → Bool
  | .s => s.settings.acceptS
  | .c => s.settings.acceptC

/-- A mark that arrives on a port in UP is accepted (R14, log 12). -/
def markAccepted (s : State) (p : Port) (m : Mark) : Bool :=
  s.links.mask.isNone && !s.resetComing &&
    (match m with
     | .stationMark => true
     | .sectionMark => s.accepts p)

/-- A refused mark: its event, held back until a coming reset has taken effect (R14). -/
def refuseMark (s : State) : State :=
  if s.resetComing then s.setLinks { s.links with refusalDeferred := true } else s.raise .resetMarkRefused

/-- The reset mask timer started from 0 (R16). -/
def startMask (s : State) : State := s.setLinks { s.links with mask := some 0 }

/-- A link control frame carrying a mark sent at once out of a port, cutting off what it sends (R15, R17, R20). -/
def sendMark (s : State) (p : Port) (m : Mark) : State :=
  s.setTx p (some ⟨.mark, controlFrame s.partAddr (.mark m)⟩)

/-- An accepted mark: passed out of the other port when it is UP, its reset then pending; taken at once otherwise
(R15). -/
def acceptMark (s : State) (p : Port) (m : Mark) : State :=
  let s1 := s.startMask
  if s1.isUp p.other then
    let s2 := s1.sendMark p.other m
    s2.setLinks { s2.links with markReset := some ⟨m, p⟩ }
  else s1.takeMarkReset ⟨m, p⟩

/-- A reset mark on a port in UP (R5, R14). -/
def judgeMark (s : State) (p : Port) (m : Mark) : State :=
  let s1 := s.modPort p PortState.goodInUp
  if s1.markAccepted p m then s1.acceptMark p m else s1.refuseMark

/-- A reset mark on a port in any state (R14). -/
def markArrives (s : State) (p : Port) (m : Mark) : State :=
  if s.isHeld || !s.isUp p then s else s.judgeMark p m

/-! ## Phases (R2 to R5, R8) -/

/-- A good phase frame in CONFIRM (R4). -/
def phaseInConfirm (s : State) (p : Port) (v : Control) : State :=
  match v with
  | .confirm =>
    if (s.port p).settle.isSome || (s.port p).early then s
    else if (s.port p).pastMinimum then s.modPort p (fun x => { x with settle := some 0 })
    else s.modPort p (fun x => { x with early := true })
  | .up => s.enterUp p
  | .seek => s.modPort p (fun x => x.enterSeek s.partAddr false true)
  | .align => s
  | .mark _ => s

/-- A good phase frame or idle fill in UP (R5). -/
def phaseInUp (s : State) (p : Port) (v : Control) : State :=
  let s1 := s.modPort p PortState.goodInUp
  if v == .seek then s1.partnerSeeks p else s1

/-- A good, well-formed link control frame carrying a phase (R2 to R5, R8). -/
def phaseArrives (s : State) (p : Port) (v : Control) : State :=
  match (s.port p).link with
  | .down => if v == .seek then s.modPort p (fun x => x.enterSeek s.partAddr false true) else s
  | .seek =>
    if v == .seek || v == .align then s.modPort p (fun x => x.advanceOrEarly PortState.enterAlign) else s
  | .align =>
    if v == .align || v == .confirm then s.modPort p (fun x => x.advanceOrEarly PortState.enterConfirm) else s
  | .confirm => s.phaseInConfirm p v
  | .up => s.phaseInUp p v

/-- A malformed link control frame: in UP it counts as a good frame and raises MALFORMED_FRAME (R19). -/
def malformedControl (s : State) (p : Port) : State :=
  if s.isUp p then (s.modPort p PortState.goodInUp).raise .malformedFrame else s

/-- A good frame of kind LINK_CONTROL with a well-formed header, by its payload (R2 to R5, R8, R9, R14, R19). -/
def linkControl (s : State) (p : Port) (body : List Byte) : State :=
  if s.isHeld || s.portDisabled p then s
  else
    match controlOf body with
    | none => s.malformedControl p
    | some (.mark m) => s.markArrives p m
    | some v => s.phaseArrives p v

/-! ## Timer events of bring-up (R2 to R4, R8) -/

/-- The effect of the phase minimum on a port: an early arrival takes effect (R2 to R4). -/
def atMinimum (x : PortState) : PortState :=
  let y := { x with phase := x.phase.map (fun t => max t Config.phaseMinimum) }
  if y.early then
    match y.link with
    | .seek => y.enterAlign
    | .align => y.enterConfirm
    | .confirm => if y.settle.isNone then { y with settle := some 0 } else y
    | .down => y
    | .up => y
  else y

/-- The phase timer reaches 2 ms (R2 to R4). -/
def minimumReached (s : State) (p : Port) : State :=
  if s.isHeld || (s.port p).phase.isNone then s else s.modPort p atMinimum

/-- The effect of the deadline on a port (R2 to R4, R8); the retry timer resumes at the attempt's 5 ms (log 9). -/
def atDeadline (x : PortState) : PortState :=
  match x.link with
  | .seek => x.enterDown (some (if x.attempt then Config.attemptDeadline else 0))
  | .align => x.enterDown (some 0)
  | .confirm => if x.settle.isNone && !x.early then x.enterDown (some 0) else x
  | .down => x
  | .up => x

/-- The phase timer reaches its deadline (R2 to R4). -/
def deadlineReached (s : State) (p : Port) : State :=
  if s.isHeld then s else s.modPort p atDeadline

/-- The settle timer reaches 100 us (R4). -/
def settleExpires (s : State) (p : Port) : State :=
  if !s.isHeld && (s.port p).link == .confirm && (s.port p).settle.isSome then s.enterUp p else s

/-- The retry timer reaches its 250 ms point (R8). -/
def retryStarts (s : State) (p : Port) : State :=
  if !s.isHeld && (s.port p).link == .down && (s.port p).retry.isSome then
    s.modPort p (fun x => x.enterSeek s.partAddr true false)
  else s

/-- The reset mask timer reaches 100 ms and stops (R16). -/
def maskExpires (s : State) : State := s.setLinks { s.links with mask := none }

end State
end Sys2Proof.Machine
end

