-- ==== Sys2Proof/Machine/Tables.lean ====
section
/-! DEFINITION. The banks as the requests see them: reading and writing entries (R171, R173), and the checks COMMIT makes
of the Staging bank (R46, R54, R87, R93, R113, R172, R175). -/

namespace Sys2Proof.Machine

/-! ## Reading and writing entries -/

/-- Entries read with their range check; the table index of the first that fails is the error (R171). -/
def readEntries {α : Type} (read : List Byte → Option α) : Nat → List (List Byte) → Except Nat (List α)
  | _, [] => .ok []
  | i, bs :: rest =>
    match read bs with
    | some e =>
      (match readEntries read (i + 1) rest with
       | .ok es => .ok (e :: es)
       | .error j => .error j)
    | none => .error i

/-- Consecutive entries of a table replaced from an index upward (R171). -/
def writeFrom {α : Type} {n : Nat} : Nat → List α → Vector α n → Vector α n
  | _, [], v => v
  | i, x :: xs, v => writeFrom (i + 1) xs (v.setIfInBounds i x)

/-- A bank with entries of one table written, or the index of the first bad entry and nothing written (R171). -/
def Bank.write (b : Bank) (t : TableId) (first : Nat) (entries : List (List Byte)) : Except Nat Bank :=
  match t with
  | .channelMap =>
    (readEntries MapEntry.read first entries).map (fun l => { b with channelMap := writeFrom first l b.channelMap })
  | .groupPlan => (readEntries Plan.read first entries).map (fun l => { b with plans := writeFrom first l b.plans })
  | .limit => (readEntries LimitEntry.read first entries).map (fun l => { b with limits := writeFrom first l b.limits })
  | .signature =>
    (readEntries Signature.read first entries).map (fun l => { b with signatures := writeFrom first l b.signatures })
  | .eventTable =>
    (readEntries EventEntry.read first entries).map (fun l => { b with events := writeFrom first l b.events })
  | .route => (readEntries Route.read first entries).map (fun l => { b with routes := writeFrom first l b.routes })
  | .partSettings =>
    (readEntries Settings.read first entries).map (fun l => { b with settings := l.headD b.settings })

/-- The entries of one table of a bank in their encodings (R173). -/
def Bank.rows (b : Bank) : TableId → List (List Byte)
  | .channelMap => b.channelMap.toList.map MapEntry.encode
  | .groupPlan => b.plans.toList.map Plan.encode
  | .limit => b.limits.toList.map LimitEntry.encode
  | .signature => b.signatures.toList.map Signature.encode
  | .eventTable => b.events.toList.map EventEntry.encode
  | .route => b.routes.toList.map Route.encode
  | .partSettings => [b.settings.encode]

/-! ## The checks of COMMIT (R175) -/

/-- Two valid Channel Map entries collide (R46). -/
def MapEntry.collides (e f : MapEntry) : Bool :=
  e.valid && f.valid &&
    ((e.node == f.node && e.slot == f.slot) || (e.group == f.group && e.chan == f.chan))

/-- The first Channel Map entry that collides with a valid entry of lower index (R46); `seen` are the entries before. -/
def mapFailure : Nat → List MapEntry → List MapEntry → Option Nat
  | _, _, [] => none
  | i, seen, e :: es => if seen.any (fun f => e.collides f) then some i else mapFailure (i + 1) (e :: seen) es

/-- A list is strictly ascending. -/
def strictlyAscending : List Nat → Bool
  | a :: b :: rest => decide (a < b) && strictlyAscending (b :: rest)
  | _ => true

/-- The plan of group g is consistent with its bank: channels, orders, verdict measures (R54, R87). -/
def Bank.planOk (b : Bank) (g : Group) : Bool :=
  let p := b.plans[g]
  b.kindOf g p.refChan == some .acVoltageRef && b.kindOf g p.condChan == some .dcCurrent
    && strictlyAscending p.orders && p.orders.all (fun h => decide (1 ≤ h ∧ h ≤ 48))
    && p.measures.all (fun m => b.suits g m)

/-- The first group whose enabled plan fails (R54, R87). -/
def Bank.planFailure (b : Bank) : Option Nat :=
  (all8.find? (fun g => b.plans[g].enabled && !b.planOk g)).map Fin.val

/-- The index of the first entry for which p holds. -/
def firstIndex {α : Type} (p : α → Bool) : Nat → List α → Option Nat
  | _, [] => none
  | i, x :: xs => if p x then some i else firstIndex p (i + 1) xs

/-- The first valid limit entry whose measure is not of a mapped channel of suitable kind (R93). -/
def Bank.limitFailure (b : Bank) : Option Nat :=
  firstIndex (fun e => e.valid && !b.suits e.group e.ref) 0 b.limits.toList

/-- The first valid signature that cares for no flag (R113). -/
def Bank.signatureFailure (b : Bank) : Option Nat :=
  firstIndex (fun e => e.valid && e.care == 0) 0 b.signatures.toList

/-- Part Settings meet the commit checks (R172). -/
def Settings.commitOk (e : Settings) : Bool :=
  decide (17 ≤ e.partAddr.toNat ∧ e.partAddr.toNat ≤ 62) && decide (e.reportDest.toNat ≤ 62)
    && decide (e.eventDest.toNat ≤ 62) && decide (2 ≤ e.staleMs ∧ e.staleMs ≤ 100)
    && decide (50 ≤ e.commitMs ∧ e.commitMs ≤ 2000)

/-- The first check of COMMIT that the bank fails, as its table and entry index (R175). -/
def Bank.failure (b : Bank) : Option (TableId × Nat) :=
  match mapFailure 0 [] b.channelMap.toList with
  | some i => some (.channelMap, i)
  | none =>
    match b.planFailure with
    | some i => some (.groupPlan, i)
    | none =>
      match b.limitFailure with
      | some i => some (.limit, i)
      | none =>
        match b.signatureFailure with
        | some i => some (.signature, i)
        | none => if b.settings.commitOk then none else some (.partSettings, 0)

end Sys2Proof.Machine
end

