-- ==== Sys2Proof/Machine/Reading.lean ====
section
/-! DEFINITION. The data of the read requests (R42, R103, R123, R148, R164, R188, R189). -/

namespace Sys2Proof.Machine

/-- One node record of READ_SOURCES (R42). -/
def SourceEntry.encode (e : SourceEntry) : List Byte :=
  [e.state.code, e.expected.getD 0] ++ beNat e.missed ++ beNat e.duplicates ++ beNat e.outOfOrder

/-- The Dispatcher's data of READ_EVENTS (R148). -/
def Dispatcher.encode (d : Dispatcher) : List Byte :=
  be16 d.pending ++ be16 d.mask ++ be16 d.raw ++ be16 d.status ++
    [byte d.fifos.limitRaised.length, byte d.fifos.limitCleared.length, byte d.fifos.diagnosisSet.length,
      byte d.fifos.diagnosisCleared.length, byte d.fifos.sourceGap.length, byte d.fifos.windowRejected.length,
      (match d.slot with
       | some f => byte f.kind.code
       | none => 255),
      byte d.last.code]

/-- The Report Queue's part of READ_STATUS (R164). -/
def ReportQueue.encode (q : ReportQueue) : List Byte :=
  [byte q.records.length, byte q.verdicts] ++ beNat q.dropCount ++ [byte q.waiting.length]

/-- The commit control part of READ_STATUS: state, active and staging generation, switched flags, time remaining
(R188). -/
def commitStatus (gen : Gen) : Option Commit → List Byte
  | some c =>
    (1 :: be16 gen) ++ be16 c.stagingGen ++ [c.switched] ++
      beNat (match c.timer with
        | some t => (c.timeoutMs * Config.unitsPerMs - t) / Config.unitsPerMs
        | none => 0)
  | none => (0 :: be16 gen) ++ [0, 0, 0, 0, 0]

/-- The hold control part of READ_STATUS: state and time remaining (R188). -/
def holdStatus : Option Hold → List Byte
  | some h => (if h.effective then 2 else 1) :: beNat ((h.limitMs * Config.unitsPerMs - h.elapsed) / Config.unitsPerMs)
  | none => [0, 0, 0]

/-- A descriptor of READ_GROUP, 10 bytes; a FREE one is all 0 (R189). -/
def Descriptor.encode (d : Descriptor) : List Byte :=
  if d.live then
    [d.state.code] ++ be16 d.number ++ be16 d.start ++ be16 (d.stop.getD 0) ++ be16 d.tag ++ [flagByte d.held]
  else List.replicate 10 0

/-- The Window Engine part of READ_GROUP (R189). -/
def GroupCtx.encode (x : GroupCtx) (g : Group) : List Byte :=
  [byte g.val, x.state.code] ++ be16 x.gen ++ be16 x.counter ++ [byte x.rejects, flagByte x.arm] ++ beNat x.late
    ++ x.descs.toList.flatMap Descriptor.encode

/-- The Signature Classifier part of READ_GROUP (R123). -/
def latchStatus : Option Diagnosis → List Byte
  | some d => [d.code, d.severity.code, byte d.index] ++ be16 d.window
  | none => [0, 0, 255, 0, 0]

/-- The records of a group's valid entries, from index i on (R103). -/
def entryRecords (g : Group) : Nat → List LimitEntry → List LimitState → List (List Byte)
  | i, e :: es, st :: sts =>
    if e.valid && e.group == g then (byte i :: st.encode) :: entryRecords g (i + 1) es sts
    else entryRecords g (i + 1) es sts
  | _, _, _ => []

namespace State

/-- The data of READ_STATUS (R188). -/
def statusData (s : State) : List Byte :=
  [s.links.s.link.code, s.links.c.link.code] ++ beNat s.links.s.badCount ++ beNat s.links.c.badCount
    ++ [s.links.cause.code, flagByte s.links.mask.isSome, addrByte s.partAddr]
    ++ commitStatus s.mgmt.activeGen s.mgmt.commit ++ holdStatus s.mgmt.hold
    ++ s.ana.groups.toList.map (fun x => x.state.code)
    ++ [alertSet s.latches, byte s.ana.queue.length, flagByte s.ana.engine.isSome]
    ++ s.rep.encode ++ [s.snap.state.code]

/-- The Check Unit part of READ_GROUP, with records for at most 62 entries (R103, R189). -/
def checkStatus (s : State) (g : Group) : List Byte :=
  let records := entryRecords g 0 (s.groupBank g).limits.toList (s.limitStates g).toList
  be16 (s.vector g) ++ [byte records.length] ++ (records.take Config.readGroupRecords).flatten

/-- The data of READ_GROUP (R189). -/
def groupData (s : State) (g : Group) : List Byte :=
  (s.group g).encode g ++ latchStatus (s.latch g) ++ s.checkStatus g

/-- The data of READ_SOURCES (R42). -/
def sourcesData (s : State) : List Byte := s.sources.toList.flatMap SourceEntry.encode

end State
end Sys2Proof.Machine
end

