-- ==== Sys2Proof/Machine/Requests.lean ====
section
/-! DEFINITION. What each management request does once it is in the request buffer with a well-formed envelope
(R168 steps 2 to 5). -/

namespace Sys2Proof.Machine

/-- What a request does. -/
abbrev Action := Request → State → State

/-- A parameter byte of a request. -/
def Request.param (r : Request) (i : Nat) : Byte := byteAt r.params i

/-- The kind set of an event request. -/
def Request.kinds (r : Request) : KindSet := half (r.param 0) (r.param 1)

/-! ## The Staging bank (R171, R173, R174) -/

/-- Steps 3 to 5 of WRITE_STAGING, for entries in range (R171). -/
def writeEntries (r : Request) (t : TableId) (s : State) : State :=
  if s.mgmt.commit.isSome then s.answer r .commitPending []
  else
    match s.mgmt.staging.write t (r.param 1).toNat (chunks t.entrySize (r.param 2).toNat (r.params.drop 3)) with
    | .ok b => (s.setMgmt { s.mgmt with staging := b }).answer r .done []
    | .error i => s.answer r .badEntry [byte i]

/-- WRITE_STAGING (R171). -/
def doWriteStaging : Action := fun r s =>
  match TableId.ofByte (r.param 0) with
  | some t =>
    if (r.param 1).toNat + (r.param 2).toNat ≤ t.size then writeEntries r t s else s.answer r .badRequest []
  | none => s.answer r .badRequest []

/-- The bank a READ_TABLE names, when it names one (R168). -/
def State.bankNamed (s : State) (b : Byte) : Option Bank :=
  if b = 0 then some s.mgmt.active else if b = 1 then some s.mgmt.staging else none

/-- The first index and count of a READ_TABLE are in range for a table (R168). -/
def readInRange (t : TableId) (first count : Nat) : Bool :=
  decide (1 ≤ count) && decide (first + count ≤ t.size) && decide (count * t.entrySize ≤ 236)

/-- READ_TABLE (R173). -/
def doReadTable : Action := fun r s =>
  match s.bankNamed (r.param 0), TableId.ofByte (r.param 1) with
  | some b, some t =>
    if readInRange t (r.param 2).toNat (r.param 3).toNat then
      s.answer r .done (((b.rows t).drop (r.param 2).toNat).take (r.param 3).toNat).flatten
    else s.answer r .badRequest []
  | _, _ => s.answer r .badRequest []

/-- COPY_ACTIVE (R174). -/
def doCopyActive : Action := fun r s =>
  if s.mgmt.commit.isSome then s.answer r .commitPending []
  else (s.setMgmt { s.mgmt with staging := s.mgmt.active }).answer r .done []

/-! ## Commit (R175, R178) -/

/-- COMMIT (R175, R178): the reply stands ahead of the markers the acceptance owes (R170). -/
def doCommit : Action := fun r s =>
  if s.mgmt.commit.isSome then s.answer r .busy []
  else
    match s.mgmt.staging.failure with
    | some (t, i) => s.answer r .inconsistent [t.code, byte i]
    | none => ((s.answer r .accepted (be16 (s.mgmt.activeGen + 1))).acceptCommit).finish

/-! ## Hold (R182, R184) -/

/-- HOLD (R182). -/
def doHold : Action := fun r s =>
  let limit := (half (r.param 0) (r.param 1)).toNat
  if limit = 0 ∨ 60000 < limit then s.answer r .badRequest []
  else if s.mgmt.hold.isSome then s.answer r .busy []
  else ((s.setMgmt { s.mgmt with hold := some ⟨false, 0, limit⟩ }).answer r .accepted []).finish

/-- RELEASE (R184). -/
def doRelease : Action := fun r s =>
  match s.mgmt.hold with
  | none => s.answer r .refused []
  | some h => (s.answer r .done []).endHold h .request

/-! ## Quiesce and resume (R186, R187) -/

/-- A quiesce taken for a group within its request (R69, R186, R202). -/
def takeQuiesce (g : Group) (s : State) : State :=
  ((((s.abortSnapshot g).quiesce g).judgeHold).judgeQuiesced g).finish

/-- QUIESCE_GROUP (R186). -/
def doQuiesceGroup : Action := fun r s =>
  match fin8Of (r.param 0) with
  | none => s.answer r .badRequest []
  | some g =>
    if (s.group g).state == .quiescing || (s.group g).state == .quiesced then s.answer r .refused []
    else takeQuiesce g (s.answer r .accepted [])

/-- RESUME_GROUP (R187). -/
def doResumeGroup : Action := fun r s =>
  match fin8Of (r.param 0) with
  | none => s.answer r .badRequest []
  | some g =>
    if (s.group g).state == .quiesced then (s.resume g).answer r .done [] else s.answer r .refused []

/-! ## Reading (R188 to R190) -/

/-- READ_STATUS (R188). -/
def doReadStatus : Action := fun r s => s.answer r .done s.statusData

/-- READ_GROUP (R189). -/
def doReadGroup : Action := fun r s =>
  match fin8Of (r.param 0) with
  | none => s.answer r .badRequest []
  | some g => s.answer r .done (s.groupData g)

/-- READ_SOURCES (R190). -/
def doReadSources : Action := fun r s => s.answer r .done s.sourcesData

/-- READ_EVENTS (R148, R190). -/
def doReadEvents : Action := fun r s => s.answer r .done s.disp.encode

/-! ## Restart and reset (R17, R191, R192) -/

/-- RESTART_ANALYSIS with the propagate flag set: the mask timer starts, and Port S sends a SECTION mark when it is UP
(R17, R191). -/
def propagateRestart (r : Request) (s : State) : State :=
  if s.startMask.isUp .s then
    let s1 := s.startMask.sendMark .s .sectionMark
    s1.setMgmt { s1.mgmt with restartMark := true }
  else s.startMask.takeRestart (some r)

/-- RESTART_ANALYSIS (R191). -/
def doRestartAnalysis : Action := fun r s =>
  match flagOf (r.param 0) with
  | none => s.answer r .badRequest []
  | some true => propagateRestart r s
  | some false => s.takeRestart (some r)

/-- RESET_PART (R17, R192): the reset follows at once when the reply has entered and Port C is not UP. -/
def doResetPart : Action := fun r s =>
  if s.rep.placeFree && !s.isUp .c then (s.answer r .done []).takeFullReset .resetRequest else s.answer r .done []

/-! ## Event requests (R144 to R147) -/

/-- ACK_EVENTS (R144). -/
def doAckEvents : Action := fun r s =>
  (s.setDisp { s.disp with status := s.disp.status &&& ~~~r.kinds }).answer r .done []

/-- CLEAR_RAW (R145). -/
def doClearRaw : Action := fun r s =>
  (s.setDisp { s.disp with raw := s.disp.raw &&& ~~~r.kinds }).answer r .done []

/-- SET_MASK (R146). -/
def doSetMask : Action := fun r s => (s.setDisp { s.disp with mask := s.disp.mask ||| r.kinds }).answer r .done []

/-- CLEAR_MASK (R147). -/
def doClearMask : Action := fun r s =>
  (s.setDisp { s.disp with mask := s.disp.mask &&& ~~~r.kinds }).answer r .done []

/-! ## Snapshot requests (R196, R204, R205) -/

/-- Channel indices read, none above 7 and none repeated (R196). -/
def readChans : List Byte → Option (List Chan)
  | [] => some []
  | b :: bs =>
    match fin8Of b, readChans bs with
    | some c, some cs => if cs.contains c then none else some (c :: cs)
    | _, _ => none

/-- ARM_SNAPSHOT (R196). -/
def doArmSnapshot : Action := fun r s =>
  match fin8Of (r.param 0), Trigger.ofByte (r.param 1), readChans (r.params.drop 3) with
  | some g, some t, some cs =>
    if s.snap.state == .empty then
      (s.setSnap ⟨.armed ⟨g, t, cs, (s.group g).counter⟩, emptyBuffer⟩).answer r .accepted (be16 (s.group g).counter)
    else s.answer r .busy []
  | _, _, _ => s.answer r .badRequest []

/-- READ_SNAPSHOT (R204). -/
def doReadSnapshot : Action := fun r s =>
  let offset := (r.param 0).toNat
  let count := (r.param 1).toNat
  if 1 ≤ count ∧ count ≤ 16 ∧ offset + count ≤ 192 then
    match s.snap.state with
    | .ready a h => s.answer r .done (snapshotData a h s.snap.buffer offset count)
    | .empty => s.answer r .notReady []
    | .armed _ => s.answer r .notReady []
  else s.answer r .badRequest []

/-- RELEASE_SNAPSHOT (R205). -/
def doReleaseSnapshot : Action := fun r s =>
  match s.snap.state with
  | .empty => s.answer r .done []
  | .armed _ => (s.setSnap SnapshotUnit.reset).answer r .done []
  | .ready _ _ => (s.setSnap SnapshotUnit.reset).answer r .done []

/-! ## By request code (2.1.3) -/

/-- The action of a listed request code; an unlisted one never reaches it, its envelope being malformed (R24). -/
def actionOf (code : Byte) : Action :=
  if code = 0x01 then doWriteStaging
  else if code = 0x02 then doReadTable
  else if code = 0x03 then doCopyActive
  else if code = 0x04 then doCommit
  else if code = 0x05 then doHold
  else if code = 0x06 then doRelease
  else if code = 0x07 then doQuiesceGroup
  else if code = 0x08 then doResumeGroup
  else if code = 0x09 then doReadStatus
  else if code = 0x0A then doReadGroup
  else if code = 0x0B then doReadSources
  else if code = 0x0C then doRestartAnalysis
  else if code = 0x0D then doResetPart
  else if code = 0x10 then doAckEvents
  else if code = 0x11 then doClearRaw
  else if code = 0x12 then doSetMask
  else if code = 0x13 then doClearMask
  else if code = 0x14 then doReadEvents
  else if code = 0x18 then doArmSnapshot
  else if code = 0x19 then doReadSnapshot
  else doReleaseSnapshot

end Sys2Proof.Machine
end

