-- ==== Sys2Proof/Machine/Frames.lean ====
section
/-! DEFINITION. The Frame Classifier and the taking of requests (chapter 2; R167, R168 step 1): what a received frame
does. -/

namespace Sys2Proof.Machine
namespace State

/-! ## Offers to the forward buffers (R26, R28) -/

/-- A frame offered to the S-to-C forward buffer (R26). -/
def offerSToC (s : State) (frame : List Byte) : State :=
  if s.isUp .c then
    if s.fwd.sToC.length < Config.sToCFrames then s.setFwd { s.fwd with sToC := s.fwd.sToC ++ [frame] }
    else s.raise .forwardOverrun
  else s

/-- A frame offered to the C-to-S forward buffer (R28). -/
def offerCToS (s : State) (frame : List Byte) : State :=
  if s.settings.portSEnable then
    if s.fwd.cToS.length < Config.cToSFrames then s.setFwd { s.fwd with cToS := s.fwd.cToS ++ [frame] }
    else s.raise .forwardOverrun
  else s

/-! ## Taking a request (R24, R167, R168) -/

/-- A request in the request buffer, judged on its envelope first (R168 step 1). -/
def beginRequest (s : State) (r : Request) (act : Action) : State :=
  let s1 := s.setMgmt { s.mgmt with request := some r }
  if envelopeOk r.code r.params then act r s1 else s1.answer r .badRequest []

/-- A request handed to the Management Unit: taken, or answered BUSY (R167). -/
def takeRequest (s : State) (r : Request) (act : Action) : State :=
  if s.mgmt.request.isSome then s.answerBusy r else s.beginRequest r act

/-- A request given to the Management Unit by its source and its parts; one from address 63 is discarded with
MALFORMED_FRAME (R24). -/
def giveRequest (s : State) (r : Request) (act : Action) : State :=
  if r.source = 63 then s.raise .malformedFrame else s.takeRequest r act

/-- A REQUEST frame given to the Management Unit (R24). -/
def giveFrame (s : State) (frame : List Byte) : State :=
  match payload frame with
  | code :: seq :: params => s.giveRequest ⟨addrOf (sourceByte frame), seq, code, params⟩ (actionOf code)
  | _ => s.raise .malformedFrame

/-! ## Classification (R21, R23) -/

/-- A good non-control frame from Port S classified (R21). -/
def classifyS (frame : List Byte) (s : State) : State :=
  if malformedHeader frame then (s.offerSToC frame).raise .malformedFrame
  else
    match decide (kindByte frame = kindSample), nodeOf (sourceByte frame) with
    | true, some n =>
      if sampleWellFormed (payload frame) then (s.offerSToC frame).track n (seqByte frame) (payload frame)
      else (s.offerSToC frame).raise .malformedFrame
    | _, _ => s.offerSToC frame

/-- A good non-control frame from Port C classified (R23); the copy of a broadcast request is offered first
(log 24). -/
def classifyC (frame : List Byte) (s : State) : State :=
  if malformedHeader frame then (s.offerCToS frame).raise .malformedFrame
  else if kindByte frame = kindRequest then
    if addrOf (destByte frame) = s.partAddr then s.giveFrame frame
    else if addrOf (destByte frame) = 63 then (s.offerCToS frame).giveFrame frame
    else s.offerCToS frame
  else if addrOf (destByte frame) = s.partAddr then s
  else s.offerCToS frame

/-! ## Reception -/

/-- A good non-control frame on a port: handled in UP, and in CONFIRM as the first frame received in UP; discarded
elsewhere, and unclassified while a mark's reset is pending (R2 to R5, R8, R9, R12, R15, R34). -/
def received (s : State) (p : Port) (handle : State → State) : State :=
  if s.isHeld || s.portDisabled p then s
  else
    match (s.port p).link with
    | .up =>
      let s1 := s.modPort p PortState.goodInUp
      if s1.links.markReset.isSome then s1 else handle s1
    | .confirm =>
      let s1 := s.enterUp p
      if s1.links.markReset.isSome then s1 else handle s1
    | .down => s
    | .seek => s
    | .align => s

/-- A frame received on a port, by its check and its kind (R5, R6, R18, R19). -/
def frameArrives (s : State) (p : Port) (frame : List Byte) (classify : List Byte → State → State) : State :=
  if !goodCheck frame then s.badCheck p
  else if !malformedHeader frame && kindByte frame == kindLinkControl then s.linkControl p (payload frame)
  else s.received p (classify frame)

/-! ## A request row (log 6) -/

/-- The REQUEST frame, addressed to the part, that carries a request; the header sequence is not read. -/
def requestFrame (s : State) (r : Request) : List Byte :=
  buildFrame kindRequest s.partAddr r.source 0 (r.code :: r.seq :: r.params)

/-- A good REQUEST frame addressed to the part, given by its parts: one too long for a frame has a malformed header
(R19, R168). -/
def requestHandled (r : Request) (act : Action) (s : State) : State :=
  if 238 < r.params.length then (s.offerCToS (s.requestFrame r)).raise .malformedFrame else s.giveRequest r act

/-- The arrival on Port C of a good REQUEST frame addressed to the part. -/
def requestArrives (s : State) (r : Request) (act : Action) : State := s.received .c (requestHandled r act)

end State
end Sys2Proof.Machine
end

