-- ==== Sys2Proof/Machine/Clock.lean ====
section
/-! DEFINITION. The passing of one unit of time, 50 ns: what a step does when no command waits (log 4). A timer that has
reached its limit stays there until the command of its expiry comes (log 3). -/

namespace Sys2Proof.Machine

/-- A count toward a limit after one more unit. -/
def tickTo (limit t : Nat) : Nat := if t < limit then t + 1 else t

/-- A port's timers after one more unit (R2 to R4, R8). -/
def PortState.tick (x : PortState) : PortState :=
  { x with
    phase := x.phase.map (tickTo x.deadline)
    settle := x.settle.map (tickTo Config.settleTime)
    retry := x.retry.map (tickTo Config.retryInterval) }

/-- A stale timer after one more unit (R38). -/
def SourceEntry.tick (limit : Nat) (e : SourceEntry) : SourceEntry := { e with timer := e.timer.map (tickTo limit) }

/-- The evaluation timer after one more unit (R78). -/
def Evaluation.tick (e : Evaluation) : Evaluation := { e with elapsed := tickTo e.duration e.elapsed }

/-- The commit timer after one more unit (R178). -/
def Commit.tick (c : Commit) : Commit := { c with timer := c.timer.map (tickTo (c.timeoutMs * Config.unitsPerMs)) }

/-- The hold timer after one more unit (R182). -/
def Hold.tick (h : Hold) : Hold := { h with elapsed := tickTo (h.limitMs * Config.unitsPerMs) h.elapsed }

namespace State

/-- The mask timer after one more unit; RESET_N held low does not pause it (R16). -/
def tickMask (s : State) : State := s.setLinks { s.links with mask := s.links.mask.map (tickTo Config.maskTime) }

/-- Both ports' timers after one more unit. -/
def tickPorts (s : State) : State := s.setLinks { s.links with s := s.links.s.tick, c := s.links.c.tick }

/-- Every stale timer after one more unit. -/
def tickSources (s : State) : State :=
  s.setSources (vmap (fun e => e.tick (s.settings.staleMs * Config.unitsPerMs)) s.sources)

/-- The evaluation timer after one more unit. -/
def tickEngine (s : State) : State := s.setAna { s.ana with engine := s.ana.engine.map Evaluation.tick }

/-- The Management Unit's timers after one more unit. -/
def tickMgmt (s : State) : State :=
  s.setMgmt { s.mgmt with commit := s.mgmt.commit.map Commit.tick, hold := s.mgmt.hold.map Hold.tick }

/-- One unit of time passes; while RESET_N is low only the mask timer runs (R12, R16, R193). -/
def clockTick (s : State) : State :=
  if s.isHeld then s.tickMask else s.tickMask.tickPorts.tickSources.tickEngine.tickMgmt

end State
end Sys2Proof.Machine
end

