-- ==== Sys2Proof/Machine/Board.lean ====
section
/-! DEFINITION. The meanings of the board's and the resets' commands: POWER_APPLIED, RESET_N_LOW, RESET_N_HIGH,
RESET_MARK_RECEIVED, MARK_TRANSMISSION_END, MASK_TIMER_EXPIRY, RESET_PART_REPLY_END (R12 to R17). -/

namespace Sys2Proof.Machine

/-- What every meaning answers: the next state. -/
abbrev Result := Host.Outcome State Fault Refusal

/-- A port with its transmitter silent. -/
def PortState.silent (x : PortState) : PortState := { x with tx := none }

/-- Both transmitters silent, and no reset awaited from a mark (R12, R15, log 13). -/
def Links.silent (l : Links) : Links :=
  { l with s := l.s.silent, c := l.c.silent, markReset := none, refusalDeferred := false }

namespace State

/-- An event that the part takes while RESET_N is high and a full reset has been taken; while the part is held in reset
it has no effect (R12, log 5). -/
def running (s : State) (f : State → State) : State := if s.isHeld then s else f s

/-- The part held in reset: silent on both ports, ALERT_N released, nothing awaited from a mark (R12, R118, R191; log 2). -/
def hold (s : State) (straps : BitVec 3) (cause : ResetCause) : State :=
  let s1 := (s.setPins ⟨straps, some cause, false⟩).setLinks s.links.silent
  s1.setMgmt { s1.mgmt with restartMark := false }

/-- Power is applied: the part is as though RESET_N were low, the mask timer stopped (R12, R16). -/
def powerUp (s : State) (straps : BitVec 3) : State :=
  let s1 := s.hold straps .powerOn
  s1.setLinks { s1.links with mask := none }

/-- RESET_N goes low; a power-up that has not yet ended keeps its own cause (R12). -/
def resetLow (s : State) : State := s.hold s.pins.straps (s.pins.held.getD .resetPin)

/-- RESET_N returns high: the full reset takes effect (R12). -/
def resetHigh (s : State) : State :=
  match s.pins.held with
  | some c => s.takeFullReset c
  | none => s

end State

/-- POWER_APPLIED (R12). -/
def execPowerApplied (straps : BitVec 3) (s : State) : Result := .next (s.powerUp straps)

/-- RESET_N_LOW (R12). -/
def execResetNLow (s : State) : Result := .next s.resetLow

/-- RESET_N_HIGH (R12). -/
def execResetNHigh (s : State) : Result := .next s.resetHigh

/-- RESET_MARK_RECEIVED (R14, R15). -/
def execResetMarkReceived (p : Port) (m : Mark) (s : State) : Result := .next (s.markArrives p m)

/-- MARK_TRANSMISSION_END (R15, R17). -/
def execMarkTransmissionEnd (s : State) : Result := .next s.markEnds

/-- MASK_TIMER_EXPIRY (R16). -/
def execMaskTimerExpiry (s : State) : Result := .next s.maskExpires

/-- RESET_PART_REPLY_END (R17). -/
def execResetPartReplyEnd (s : State) : Result := .next s.endResetPartReply

end Sys2Proof.Machine
end

