-- ==== Sys2Proof/Machine/LinkEvents.lean ====
section
/-! DEFINITION. The meanings of the link commands (R1 to R8): LINK_CONTROL_RECEIVED, BAD_CHECK_FRAME, LOSS_OF_SIGNAL,
PHASE_MINIMUM_REACHED, PHASE_DEADLINE, SETTLE_TIMER_EXPIRY, RETRY_ATTEMPT. -/

namespace Sys2Proof.Machine

/-- LINK_CONTROL_RECEIVED (R2 to R5, R8, R19). -/
def execLinkControlReceived (p : Port) (body : List Byte) (s : State) : Result := .next (s.linkControl p body)

/-- BAD_CHECK_FRAME (R6). -/
def execBadCheckFrame (p : Port) (s : State) : Result := .next (s.badCheck p)

/-- LOSS_OF_SIGNAL (R6). -/
def execLossOfSignal (p : Port) (s : State) : Result := .next (s.signalLost p)

/-- PHASE_MINIMUM_REACHED (R2 to R4). -/
def execPhaseMinimumReached (p : Port) (s : State) : Result := .next (s.minimumReached p)

/-- PHASE_DEADLINE (R2 to R4). -/
def execPhaseDeadline (p : Port) (s : State) : Result := .next (s.deadlineReached p)

/-- SETTLE_TIMER_EXPIRY (R4). -/
def execSettleTimerExpiry (p : Port) (s : State) : Result := .next (s.settleExpires p)

/-- RETRY_ATTEMPT (R8). -/
def execRetryAttempt (p : Port) (s : State) : Result := .next (s.retryStarts p)

end Sys2Proof.Machine
end

