-- ==== Sys2Proof/Machine/FrameEvents.lean ====
section
/-! DEFINITION. The meanings of the frame commands (R18 to R34): PORT_S_FRAME_RECEIVED, PORT_C_FRAME_RECEIVED,
PORT_C_FRAME_END, PORT_S_FRAME_END. -/

namespace Sys2Proof.Machine

/-- PORT_S_FRAME_RECEIVED (R21). -/
def execPortSFrameReceived (frame : List Byte) (s : State) : Result := .next (s.frameArrives .s frame State.classifyS)

/-- PORT_C_FRAME_RECEIVED (R23). -/
def execPortCFrameReceived (frame : List Byte) (s : State) : Result := .next (s.frameArrives .c frame State.classifyC)

/-- PORT_C_FRAME_END (R31). -/
def execPortCFrameEnd (s : State) : Result := .next s.endFrameC

/-- PORT_S_FRAME_END (R29). -/
def execPortSFrameEnd (s : State) : Result := .next s.endFrameS

end Sys2Proof.Machine
end

