-- ==== Sys2Proof/Machine/AnalysisEvents.lean ====
section
/-! DEFINITION. The meanings of the analysis, dispatch and control timer commands: STALE_TIMEOUT, EVALUATION_END,
EVENT_SELECTION, COMMIT_TIMEOUT, HOLD_EXPIRY (R38, R89, R137, R180, R185). -/

namespace Sys2Proof.Machine
namespace State

/-- The commit timer reaches its timeout; a stopped timer expires no more (R180). -/
def commitExpires (s : State) : State :=
  match s.mgmt.commit with
  | some c => if c.timer.isSome then s.forceCommit.finish else s
  | none => s

/-- The hold timer reaches its limit (R185). -/
def holdExpires (s : State) : State :=
  match s.mgmt.hold with
  | some h => s.endHold h .expiry
  | none => s

end State

/-- STALE_TIMEOUT (R38). -/
def execStaleTimeout (n : Node) (s : State) : Result := .next (s.running (fun s => s.staleTimeout n))

/-- EVALUATION_END (R89). -/
def execEvaluationEnd (s : State) : Result := .next (s.running State.endEvaluation)

/-- EVENT_SELECTION (R137). -/
def execEventSelection (s : State) : Result := .next (s.running select)

/-- COMMIT_TIMEOUT (R180). -/
def execCommitTimeout (s : State) : Result := .next (s.running State.commitExpires)

/-- HOLD_EXPIRY (R185). -/
def execHoldExpiry (s : State) : Result := .next (s.running State.holdExpires)

end Sys2Proof.Machine
end

