-- ==== Sys2Proof/Machine/RequestEvents.lean ====
section
/-! DEFINITION. The meanings of the twenty-one management requests: each is the arrival on Port C of a good REQUEST frame
with its code, addressed to the part (R23, R24, R167, R168, log 6). -/

namespace Sys2Proof.Machine

/-- WRITE_STAGING (R171). -/
def execWriteStaging (source : Addr) (seq : Byte) (params : List Byte) (s : State) : Result :=
  .next (s.requestArrives ⟨source, seq, 0x01, params⟩ doWriteStaging)

/-- READ_TABLE (R173). -/
def execReadTable (source : Addr) (seq : Byte) (params : List Byte) (s : State) : Result :=
  .next (s.requestArrives ⟨source, seq, 0x02, params⟩ doReadTable)

/-- COPY_ACTIVE (R174). -/
def execCopyActive (source : Addr) (seq : Byte) (params : List Byte) (s : State) : Result :=
  .next (s.requestArrives ⟨source, seq, 0x03, params⟩ doCopyActive)

/-- COMMIT (R175). -/
def execCommit (source : Addr) (seq : Byte) (params : List Byte) (s : State) : Result :=
  .next (s.requestArrives ⟨source, seq, 0x04, params⟩ doCommit)

/-- HOLD (R182). -/
def execHold (source : Addr) (seq : Byte) (params : List Byte) (s : State) : Result :=
  .next (s.requestArrives ⟨source, seq, 0x05, params⟩ doHold)

/-- RELEASE (R184). -/
def execRelease (source : Addr) (seq : Byte) (params : List Byte) (s : State) : Result :=
  .next (s.requestArrives ⟨source, seq, 0x06, params⟩ doRelease)

/-- QUIESCE_GROUP (R186). -/
def execQuiesceGroup (source : Addr) (seq : Byte) (params : List Byte) (s : State) : Result :=
  .next (s.requestArrives ⟨source, seq, 0x07, params⟩ doQuiesceGroup)

/-- RESUME_GROUP (R187). -/
def execResumeGroup (source : Addr) (seq : Byte) (params : List Byte) (s : State) : Result :=
  .next (s.requestArrives ⟨source, seq, 0x08, params⟩ doResumeGroup)

/-- READ_STATUS (R188). -/
def execReadStatus (source : Addr) (seq : Byte) (params : List Byte) (s : State) : Result :=
  .next (s.requestArrives ⟨source, seq, 0x09, params⟩ doReadStatus)

/-- READ_GROUP (R189). -/
def execReadGroup (source : Addr) (seq : Byte) (params : List Byte) (s : State) : Result :=
  .next (s.requestArrives ⟨source, seq, 0x0A, params⟩ doReadGroup)

/-- READ_SOURCES (R42). -/
def execReadSources (source : Addr) (seq : Byte) (params : List Byte) (s : State) : Result :=
  .next (s.requestArrives ⟨source, seq, 0x0B, params⟩ doReadSources)

/-- READ_EVENTS (R148). -/
def execReadEvents (source : Addr) (seq : Byte) (params : List Byte) (s : State) : Result :=
  .next (s.requestArrives ⟨source, seq, 0x14, params⟩ doReadEvents)

/-- RESTART_ANALYSIS (R191). -/
def execRestartAnalysis (source : Addr) (seq : Byte) (params : List Byte) (s : State) : Result :=
  .next (s.requestArrives ⟨source, seq, 0x0C, params⟩ doRestartAnalysis)

/-- RESET_PART (R192). -/
def execResetPart (source : Addr) (seq : Byte) (params : List Byte) (s : State) : Result :=
  .next (s.requestArrives ⟨source, seq, 0x0D, params⟩ doResetPart)

/-- ACK_EVENTS (R144). -/
def execAckEvents (source : Addr) (seq : Byte) (params : List Byte) (s : State) : Result :=
  .next (s.requestArrives ⟨source, seq, 0x10, params⟩ doAckEvents)

/-- CLEAR_RAW (R145). -/
def execClearRaw (source : Addr) (seq : Byte) (params : List Byte) (s : State) : Result :=
  .next (s.requestArrives ⟨source, seq, 0x11, params⟩ doClearRaw)

/-- SET_MASK (R146). -/
def execSetMask (source : Addr) (seq : Byte) (params : List Byte) (s : State) : Result :=
  .next (s.requestArrives ⟨source, seq, 0x12, params⟩ doSetMask)

/-- CLEAR_MASK (R147). -/
def execClearMask (source : Addr) (seq : Byte) (params : List Byte) (s : State) : Result :=
  .next (s.requestArrives ⟨source, seq, 0x13, params⟩ doClearMask)

/-- ARM_SNAPSHOT (R196). -/
def execArmSnapshot (source : Addr) (seq : Byte) (params : List Byte) (s : State) : Result :=
  .next (s.requestArrives ⟨source, seq, 0x18, params⟩ doArmSnapshot)

/-- READ_SNAPSHOT (R204). -/
def execReadSnapshot (source : Addr) (seq : Byte) (params : List Byte) (s : State) : Result :=
  .next (s.requestArrives ⟨source, seq, 0x19, params⟩ doReadSnapshot)

/-- RELEASE_SNAPSHOT (R205). -/
def execReleaseSnapshot (source : Addr) (seq : Byte) (params : List Byte) (s : State) : Result :=
  .next (s.requestArrives ⟨source, seq, 0x1A, params⟩ doReleaseSnapshot)

end Sys2Proof.Machine
end

