-- ==== Sys2Proof/Machine/Dispatch.lean ====
section
/-! DEFINITION. The meaning of every command: one arm per constructor of Instr. -/

namespace Sys2Proof.Machine

def exec (i : Instr) (s : State) : Host.Outcome State Fault Refusal :=
  match i with
  | .powerApplied straps => Sys2Proof.Machine.execPowerApplied straps s
  | .resetNLow => Sys2Proof.Machine.execResetNLow s
  | .resetNHigh => Sys2Proof.Machine.execResetNHigh s
  | .linkControlReceived port payload => Sys2Proof.Machine.execLinkControlReceived port payload s
  | .badCheckFrame port => Sys2Proof.Machine.execBadCheckFrame port s
  | .lossOfSignal port => Sys2Proof.Machine.execLossOfSignal port s
  | .phaseMinimumReached port => Sys2Proof.Machine.execPhaseMinimumReached port s
  | .phaseDeadline port => Sys2Proof.Machine.execPhaseDeadline port s
  | .settleTimerExpiry port => Sys2Proof.Machine.execSettleTimerExpiry port s
  | .retryAttempt port => Sys2Proof.Machine.execRetryAttempt port s
  | .resetMarkReceived port mark => Sys2Proof.Machine.execResetMarkReceived port mark s
  | .markTransmissionEnd => Sys2Proof.Machine.execMarkTransmissionEnd s
  | .maskTimerExpiry => Sys2Proof.Machine.execMaskTimerExpiry s
  | .portSFrameReceived frame => Sys2Proof.Machine.execPortSFrameReceived frame s
  | .staleTimeout node => Sys2Proof.Machine.execStaleTimeout node s
  | .portCFrameReceived frame => Sys2Proof.Machine.execPortCFrameReceived frame s
  | .portCFrameEnd => Sys2Proof.Machine.execPortCFrameEnd s
  | .portSFrameEnd => Sys2Proof.Machine.execPortSFrameEnd s
  | .resetPartReplyEnd => Sys2Proof.Machine.execResetPartReplyEnd s
  | .evaluationEnd => Sys2Proof.Machine.execEvaluationEnd s
  | .eventSelection => Sys2Proof.Machine.execEventSelection s
  | .commitTimeout => Sys2Proof.Machine.execCommitTimeout s
  | .holdExpiry => Sys2Proof.Machine.execHoldExpiry s
  | .writeStaging source seq params => Sys2Proof.Machine.execWriteStaging source seq params s
  | .readTable source seq params => Sys2Proof.Machine.execReadTable source seq params s
  | .copyActive source seq params => Sys2Proof.Machine.execCopyActive source seq params s
  | .commit source seq params => Sys2Proof.Machine.execCommit source seq params s
  | .hold source seq params => Sys2Proof.Machine.execHold source seq params s
  | .release source seq params => Sys2Proof.Machine.execRelease source seq params s
  | .quiesceGroup source seq params => Sys2Proof.Machine.execQuiesceGroup source seq params s
  | .resumeGroup source seq params => Sys2Proof.Machine.execResumeGroup source seq params s
  | .readStatus source seq params => Sys2Proof.Machine.execReadStatus source seq params s
  | .readGroup source seq params => Sys2Proof.Machine.execReadGroup source seq params s
  | .readSources source seq params => Sys2Proof.Machine.execReadSources source seq params s
  | .readEvents source seq params => Sys2Proof.Machine.execReadEvents source seq params s
  | .restartAnalysis source seq params => Sys2Proof.Machine.execRestartAnalysis source seq params s
  | .resetPart source seq params => Sys2Proof.Machine.execResetPart source seq params s
  | .ackEvents source seq params => Sys2Proof.Machine.execAckEvents source seq params s
  | .clearRaw source seq params => Sys2Proof.Machine.execClearRaw source seq params s
  | .setMask source seq params => Sys2Proof.Machine.execSetMask source seq params s
  | .clearMask source seq params => Sys2Proof.Machine.execClearMask source seq params s
  | .armSnapshot source seq params => Sys2Proof.Machine.execArmSnapshot source seq params s
  | .readSnapshot source seq params => Sys2Proof.Machine.execReadSnapshot source seq params s
  | .releaseSnapshot source seq params => Sys2Proof.Machine.execReleaseSnapshot source seq params s

end Sys2Proof.Machine
end

