-- ==== Sys2Proof/WellFormed.lean ====
section
/-! DEFINITION. Well-formed commands: the operands that a row of the table can carry. The meanings are total and give
an ill-formed operand the effect of the row it really is (log 7). -/

namespace Sys2Proof

open Sys2Proof.Machine

/-- Why the operands of a command are not those of its row. -/
inductive FormError where
  /-- A received frame whose check is bad is a BAD_CHECK_FRAME (R18). -/
  | badCheck
  /-- A good frame of kind LINK_CONTROL with a well-formed header belongs to its port (R19). -/
  | linkControl
  /-- A link control payload longer than a frame holds (2.1.1). -/
  | longPayload
  /-- A link control payload that is a mark is a RESET_MARK_RECEIVED (R14). -/
  | markPayload
  /-- A request from address 63 is discarded with MALFORMED_FRAME (R24). -/
  | broadcastSource
  /-- A request longer than a frame holds has a malformed header (R19, R168). -/
  | longRequest
  deriving DecidableEq, Repr

/-- The check of a received non-control frame. -/
def frameError (frame : List Byte) : Option FormError :=
  if !goodCheck frame then some .badCheck
  else if !malformedHeader frame && kindByte frame == kindLinkControl then some .linkControl
  else none

/-- The check of a link control payload. -/
def controlError (payload : List Byte) : Option FormError :=
  if 240 < payload.length then some .longPayload
  else
    match controlOf payload with
    | some (.mark _) => some .markPayload
    | _ => none

/-- The check of a request. -/
def requestError (source : Addr) (params : List Byte) : Option FormError :=
  if source = 63 then some .broadcastSource
  else if 238 < params.length then some .longRequest
  else none

/-- The first reason a command is not well formed, or none. -/
def Instr.formError : Instr → Option FormError
  | .portSFrameReceived frame => frameError frame
  | .portCFrameReceived frame => frameError frame
  | .linkControlReceived _ payload => controlError payload
  | .writeStaging source _ params => requestError source params
  | .readTable source _ params => requestError source params
  | .copyActive source _ params => requestError source params
  | .commit source _ params => requestError source params
  | .hold source _ params => requestError source params
  | .release source _ params => requestError source params
  | .quiesceGroup source _ params => requestError source params
  | .resumeGroup source _ params => requestError source params
  | .readStatus source _ params => requestError source params
  | .readGroup source _ params => requestError source params
  | .readSources source _ params => requestError source params
  | .readEvents source _ params => requestError source params
  | .restartAnalysis source _ params => requestError source params
  | .resetPart source _ params => requestError source params
  | .ackEvents source _ params => requestError source params
  | .clearRaw source _ params => requestError source params
  | .setMask source _ params => requestError source params
  | .clearMask source _ params => requestError source params
  | .armSnapshot source _ params => requestError source params
  | .readSnapshot source _ params => requestError source params
  | .releaseSnapshot source _ params => requestError source params
  | .powerApplied _ => none
  | .resetNLow => none
  | .resetNHigh => none
  | .badCheckFrame _ => none
  | .lossOfSignal _ => none
  | .phaseMinimumReached _ => none
  | .phaseDeadline _ => none
  | .settleTimerExpiry _ => none
  | .retryAttempt _ => none
  | .resetMarkReceived _ _ => none
  | .markTransmissionEnd => none
  | .maskTimerExpiry => none
  | .staleTimeout _ => none
  | .portCFrameEnd => none
  | .portSFrameEnd => none
  | .resetPartReplyEnd => none
  | .evaluationEnd => none
  | .eventSelection => none
  | .commitTimeout => none
  | .holdExpiry => none

/-- A command is well formed. -/
def Instr.wellFormed (i : Instr) : Bool := i.formError.isNone

end Sys2Proof
end

