-- ==== Sys2Proof/Safety.lean ====
section
/-! DEFINITION. What is claimed of the part, apart from single commands: the invariants its rules give, and the words
the statements about requests are written in. -/

namespace Sys2Proof.Machine

/-! ## Invariants -/

/-- The Report Queue as R152 and R157 keep it: at most 64 records, at most 60 of them verdicts, items waiting only
while 64 records are held, the drop count within its range. -/
def ReportQueue.ok (q : ReportQueue) : Prop :=
  q.records.length ≤ 64 ∧ q.verdicts ≤ 60 ∧ (q.waiting ≠ [] → q.records.length = 64) ∧ q.dropCount ≤ 65535

/-- The Event Dispatcher as R127 keeps it: stacks of at most 4, a detail kind pending exactly while its stack is
nonempty. -/
def Dispatcher.ok (d : Dispatcher) : Prop :=
  ∀ k : DetailKind, (d.stack k).length ≤ 4 ∧ (KindSet.has d.pending k.kind = true ↔ d.stack k ≠ [])

/-- ALERT_N as R118 keeps it: asserted exactly while a latch holds a TRIP_REQUEST diagnosis, released while RESET_N is
low. -/
def State.alertOk (s : State) : Prop := s.pins.alert = (!s.isHeld && anyTrip s.latches)

/-- The forward buffers as R26 to R28 keep them: at most 8 and 4 frames, the S-to-C buffer empty while Port C is not
UP. -/
def State.forwardOk (s : State) : Prop :=
  s.fwd.sToC.length ≤ 8 ∧ s.fwd.cToS.length ≤ 4 ∧ (s.isUp .c = false → s.fwd.sToC = [])

/-- The Report Queue, the Event Dispatcher, ALERT_N and the forward buffers, each as its rule keeps it. -/
structure State.Sound (s : State) : Prop where
  rep : s.rep.ok
  disp : s.disp.ok
  alert : s.alertOk
  forward : s.forwardOk

/-- How many descriptors of a group are in a state. -/
def GroupCtx.countIn (x : GroupCtx) (st : DescState) : Nat :=
  (x.descs.toList.filter (fun d => d.state == st)).length

/-- The descriptors of a group as R65 keeps them: at most one OPEN, at most one SETTLING, none OPEN outside TRACKING. -/
def GroupCtx.ok (x : GroupCtx) : Prop :=
  x.countIn .opened ≤ 1 ∧ x.countIn .settling ≤ 1 ∧ (x.state ≠ .tracking → x.countIn .opened = 0)

/-- The Evaluation Queue and the engine as R66 keeps them: at most 16 entries, none twice, exactly the QUEUED
descriptors; EVALUATING exactly the engine's. -/
def Analysis.queueOk (a : Analysis) : Prop :=
  a.queue.length ≤ 16 ∧ a.queue.Nodup ∧
    (∀ w : WinRef, w ∈ a.queue ↔ (a.groups[w.group]).descs[w.desc].state = .queued) ∧
    (∀ w : WinRef, (a.engine.map Evaluation.win = some w) ↔ (a.groups[w.group]).descs[w.desc].state = .evaluating)

/-- The windows of every group and the queue they share (R65, R66). -/
structure State.WindowsOk (s : State) : Prop where
  groups : ∀ g : Group, (s.group g).ok
  queue : s.ana.queueOk

/-- Commit control as R47, R94, R178 and R179 keep it: while PENDING the staging generation is the active one plus 1, a
group's generation is the staging one when its switched flag is set and the active one when it is clear, and the Check
Unit keeps a staging set; while IDLE every group has the active generation and there is no staging set. -/
def State.commitOk (s : State) : Prop :=
  (s.chk.staging.isSome = s.mgmt.commit.isSome) ∧
  match s.mgmt.commit with
  | some c =>
    c.stagingGen = s.mgmt.activeGen + 1 ∧
      ∀ g : Group, (s.group g).gen = if GroupSet.has c.switched g then c.stagingGen else s.mgmt.activeGen
  | none => ∀ g : Group, (s.group g).gen = s.mgmt.activeGen

/-- The exceedance vector of every group is the one its entries give (R101). -/
def State.vectorsOk (s : State) : Prop :=
  ∀ g : Group, s.vector g = vectorOf g (s.groupBank g).limits.toList (s.limitStates g).toList

/-- Commit control and the exceedance vectors, each as its rules keep it. -/
structure State.ChecksOk (s : State) : Prop where
  commit : s.commitOk
  vectors : s.vectorsOk

/-- What every event leaves judged: no pending commit that could complete (R176), no hold in HOLDING with nothing in
flight (R183), no reset waiting for a mark whose port is not UP (R15, R17); and of an accepted mark's reset and a
propagating restart at most one is awaited, since a mark is refused while a reset is coming (R14, log 12) and no request is
classified in a mark's interval (R34). -/
structure State.Settled (s : State) : Prop where
  commit : s.commitReady = false
  hold : ∀ h : Hold, s.mgmt.hold = some h → h.effective = false → s.anyInFlight = true
  mark : ∀ m : MarkReset, s.links.markReset = some m → s.isUp m.arrival.other = true
  restart : s.mgmt.restartMark = true → s.isUp .s = true
  single : s.links.markReset = none ∨ s.mgmt.restartMark = false

/-! ## The words of the statements about single commands -/

/-- No commit is pending and no reset is coming, so an event closes with the judgement of the hold alone. -/
def State.calm (s : State) : Prop :=
  s.mgmt.commit = none ∧ s.links.markReset = none ∧ s.mgmt.restartMark = false

/-- A port that has entered UP (R5). -/
def PortState.intoUp (x : PortState) : PortState :=
  { x with link := .up, badRun := 0, phase := none, settle := none, retry := none }

/-- A port in DOWN with the given retry timer (R8, log 8); what it transmits runs to its end (R1). -/
def PortState.intoDown (x : PortState) (retry : Option Nat) : PortState :=
  { x with link := .down, phase := none, early := false, attempt := false, settle := none, retry := retry }

/-- A port that has entered SEEK (R2, R8): a transmitter that was silent starts a SEEK frame, one that was not completes
its frame first (R1). -/
def PortState.intoSeek (x : PortState) (src : Addr) (attempt early : Bool) : PortState :=
  { x with
    link := .seek, phase := some 0, early := early, attempt := attempt, settle := none, retry := none
    tx := some (x.tx.getD ⟨.control, buildFrame kindLinkControl 63 src 0 [0x01]⟩) }

/-- What an Analysis Restart with no commit pending leaves of the analysis and of the blocks behind it (R33, R43, R74,
R76, R109, R124, R149, R194, R208), and that it leaves the ports alone but for what they transmit (R13); `t` is the state
after, `s` the one before. -/
structure State.RestartedFrom (t s : State) : Prop where
  buffers : t.fwd.sToC = [] ∧ t.fwd.cToS = [] ∧ t.fwd.lastGranted = s.fwd.lastGranted
  sources : ∀ n : Node, t.sources[n] = ⟨.silent, none, none, 0, 0, 0⟩
  groups : ∀ g : Group, t.group g = GroupCtx.reset (if s.mgmt.active.plans[g].enabled then .seeking else .off) s.mgmt.activeGen
  engine : t.ana.queue = [] ∧ t.ana.engine = none ∧ ∀ g : Group, t.ana.lastVerdicts[g] = none
  limits : t.chk = ⟨Vector.replicate 96 .clear, none, Vector.replicate 8 0⟩
  latches : t.pins = { s.pins with alert := false } ∧ ∀ g : Group, t.latch g = none
  events : t.disp.fifos = ⟨[], [], [], [], [], []⟩ ∧ t.disp.raw = 0 ∧ t.disp.status = 0 ∧ t.disp.slot = none ∧
    t.disp.mask = s.disp.mask ∧ t.disp.last = s.disp.last ∧
    t.disp.pending = if s.links.refusalDeferred then EventKind.flag .resetMarkRefused else 0
  control : t.mgmt = { s.mgmt with request := none, restartMark := false, hold := none }
  snapshot : t.snap = ⟨.empty, Vector.replicate 192 (Vector.replicate 4 none)⟩
  ports : ∀ p : Port, { t.port p with tx := (s.port p).tx } = s.port p
  links : t.links.cause = s.links.cause ∧ t.links.mask = s.links.mask ∧ t.links.markReset = none ∧
    t.links.refusalDeferred = false
  queue : t.pending = s.pending

/-! ## The words of the statements about ended windows, switches and completions -/

/-- A marker has been offered and stands in the queue or waits for a place there (R156). -/
def ReportQueue.Shows (q : ReportQueue) (m : Marker) : Prop :=
  (∃ h ∈ q.records, h.record = .marker m) ∨ .marker m ∈ q.waiting

/-- An ended window with the given indications meets the trigger of an arming (R197, R198). -/
def Descriptor.Meets (d : Descriptor) (a : Arming) (raised latchSet : Prop) : Prop :=
  let later := 1 ≤ (d.number - a.number).toNat ∧ (d.number - a.number).toNat ≤ 32767
  match a.trigger with
  | .nextWindow => later
  | .nextEven => later ∧ d.number.toNat % 2 = 0
  | .nextOdd => later ∧ d.number.toNat % 2 = 1
  | .onDiagnosis => latchSet
  | .onLimit => raised

/-- What step 4 of the end of the evaluation of window w leaves (R198 to R200): a unit armed for the window's group whose
trigger it meets is READY with its header, its samples as placed, and its marker; any other is as it was. `t` is the
state after, `s` the one before. -/
structure State.SnapshotTold (t s : State) (w : WinRef) (outcome : WinOutcome) (raised latchSet : Prop) : Prop where
  captured : ∀ a : Arming, s.snap.state = .armed a → a.group = w.group →
    let d := (s.group w.group).descs[w.desc]
    d.Meets a raised latchSet →
    t.snap.state = .ready a ⟨d.number, d.start, d.len.getD 0, outcome, d.tag⟩ ∧ t.rep.Shows (.snapshot true) ∧
    ∀ (i : Fin 192) (k : Fin 4), t.snap.buffer[i][k] =
      match a.chans[k.val]? with
      | some c =>
        if ((s.bankOf d.tag).entryOf w.group c).isSome ∧ i.val < d.len.getD 0 then
          present? (s.group w.group).store[c] (d.start + BitVec.ofNat 16 i.val)
        else none
      | none => none
  kept : (∀ a : Arming, s.snap.state = .armed a → a.group = w.group →
    ¬ (s.group w.group).descs[w.desc].Meets a raised latchSet) → t.snap = s.snap

/-- The verdict mode of window w's plan calls for a verdict with the vector and the code that state t has (R90). -/
abbrev State.VerdictDue (t s : State) (w : WinRef) : Prop :=
  let mode := (s.viewOf w).bank.plans[w.group].mode
  mode = .every ∨ (mode = .onChange ∧
    s.ana.lastVerdicts[w.group] ≠ some (t.vector w.group, ((t.latch w.group).map Diagnosis.code).getD 0))

/-- The verdict of window w, with the vector and the latch that state t has (R91, R154). -/
def State.verdictWith (t s : State) (w : WinRef) (outcome : WinOutcome) : Verdict :=
  let d := (s.group w.group).descs[w.desc]
  ⟨w.group, d.number, d.start, d.len.getD 0, outcome, t.vector w.group,
    ((t.latch w.group).map Diagnosis.code).getD 0, tripHeld (t.latch w.group),
    (if s.rep.dropCount = 0 then none else some s.rep.dropCount),
    (s.viewOf w).bank.plans[w.group].measures.map (fun r => ⟨r, (s.viewOf w).measure r⟩)⟩

/-- What step 3 of the end of the evaluation of window w leaves (R90, R91, R153, R154), `q` being the Event Dispatcher as
steps 1 and 2 left it: a verdict that is due enters while fewer than 60 records are held, taking a nonzero drop count with
it and becoming the group's last verdict, and is counted with REPORT_DROP otherwise; one that is not due leaves all
three. `t` is the state after, `s` the one before. -/
structure State.VerdictGiven (t s : State) (w : WinRef) (outcome : WinOutcome) (q : Dispatcher) : Prop where
  entered : t.VerdictDue s w → s.rep.records.length < 60 →
    (∃ rest : List Held,
      t.rep.records = s.rep.records ++ ⟨s.settings.reportDest, .verdict (t.verdictWith s w outcome)⟩ :: rest) ∧
    t.rep.dropCount = 0 ∧
    t.ana.lastVerdicts = s.ana.lastVerdicts.set w.group
      (some (t.vector w.group, ((t.latch w.group).map Diagnosis.code).getD 0))
  refused : t.VerdictDue s w → 60 ≤ s.rep.records.length →
    t.rep.dropCount = min 65535 (s.rep.dropCount + 1) ∧ t.rep.verdicts = s.rep.verdicts ∧
    t.ana.lastVerdicts = s.ana.lastVerdicts
  notDue : ¬ t.VerdictDue s w →
    t.rep.dropCount = s.rep.dropCount ∧ t.rep.verdicts = s.rep.verdicts ∧ t.ana.lastVerdicts = s.ana.lastVerdicts
  events : t.disp = if t.VerdictDue s w ∧ 60 ≤ s.rep.records.length then q.raise .reportDrop else q

/-- What step 5 of the end of the evaluation of window w leaves of the window and the engine (R77, R89): its descriptor is
FREE, and the engine has taken the head of the Evaluation Queue. `t` is the state after, `s` the one before. -/
def State.EngineReleased (t s : State) (w : WinRef) : Prop :=
  (t.group w.group).descs[w.desc].state = .free ∧ t.ana.engine.map Evaluation.win = s.ana.queue.head? ∧
    t.ana.queue = s.ana.queue.tail

/-- What a switch of the given groups, or a quiesce taken for them, does to the Snapshot Unit (R201, R202): an armed
capture of one of them is aborted with its marker; the unit is else as it was. `t` is the state after, `s` the one
before. -/
structure State.CaptureEnded (t s : State) (groups : Group → Prop) : Prop where
  aborted : ∀ a : Arming, s.snap.state = .armed a → groups a.group →
    t.snap = ⟨.empty, Vector.replicate 192 (Vector.replicate 4 none)⟩ ∧ t.rep.Shows (.snapshot false)
  kept : (∀ a : Arming, s.snap.state = .armed a → ¬ groups a.group) → t.snap = s.snap

/-- What the blocks have taken from a commit that completed with the Staging bank's Part Settings, and its marker (R9,
R11, R28, R38, R177): Port S enters DOWN or SEEK when its enable changes, the C-to-S buffer emptied with it; sources
whose timer has run the new stale timeout, or lose Port S, become STALE; a changed part address owes PRESENCE; and
COMMIT_DONE carries the new generation and at least the given forced count, more only when it merged. `t` is the state
after, `s` the one before. -/
structure State.CompletedFrom (t s : State) (gen : Gen) (forced : Nat) : Prop where
  control : t.mgmt.active = s.mgmt.staging ∧ t.mgmt.activeGen = gen ∧ t.chk.staging = none
  portS : t.links.s =
    if s.settings.portSEnable = true ∧ s.mgmt.staging.settings.portSEnable = false then
      ({ s.links.s with tx := if s.links.s.link = .up then none else s.links.s.tx } : PortState).intoDown none
    else if s.settings.portSEnable = false ∧ s.mgmt.staging.settings.portSEnable = true then
      s.links.s.intoSeek s.mgmt.staging.settings.partAddr false false
    else s.links.s
  links : { t.links with s := s.links.s, presenceOwed := s.links.presenceOwed } = s.links
  presence : t.links.presenceOwed =
    (s.links.presenceOwed || (s.mgmt.staging.settings.partAddr != s.partAddr && s.links.c.link == .up))
  buffers : t.fwd = { s.fwd with
    cToS := if s.settings.portSEnable = true ∧ s.mgmt.staging.settings.portSEnable = false then [] else s.fwd.cToS }
  sources : ∀ n : Node, t.sources[n] =
    if s.sources[n].state = .tracking ∧
        ((s.settings.portSEnable = true ∧ s.mgmt.staging.settings.portSEnable = false ∧ s.links.s.link = .up) ∨
          s.mgmt.staging.settings.staleMs * 20000 ≤ s.sources[n].timer.getD 0) then
      { s.sources[n] with state := .stale, timer := none }
    else s.sources[n]
  lost : (∃ n : Node, t.sources[n] ≠ s.sources[n]) → KindSet.has t.disp.pending .sourceLost = true
  down : s.settings.portSEnable = true → s.mgmt.staging.settings.portSEnable = false → s.links.s.link = .up →
    KindSet.has t.disp.pending .linkDown = true
  done : (⟨s.mgmt.staging.settings.reportDest, .marker (.commitDone gen forced)⟩ : Held) ∈ t.rep.records ∨
    ∃ k : Nat, forced ≤ k ∧ .marker (.commitDone gen k) ∈ t.rep.waiting

/-! ## The words of the statements about requests -/

/-- The request a request row carries (log 6). -/
def requestOf : Instr → Option Request
  | .writeStaging source seq params => some ⟨source, seq, 0x01, params⟩
  | .readTable source seq params => some ⟨source, seq, 0x02, params⟩
  | .copyActive source seq params => some ⟨source, seq, 0x03, params⟩
  | .commit source seq params => some ⟨source, seq, 0x04, params⟩
  | .hold source seq params => some ⟨source, seq, 0x05, params⟩
  | .release source seq params => some ⟨source, seq, 0x06, params⟩
  | .quiesceGroup source seq params => some ⟨source, seq, 0x07, params⟩
  | .resumeGroup source seq params => some ⟨source, seq, 0x08, params⟩
  | .readStatus source seq params => some ⟨source, seq, 0x09, params⟩
  | .readGroup source seq params => some ⟨source, seq, 0x0A, params⟩
  | .readSources source seq params => some ⟨source, seq, 0x0B, params⟩
  | .restartAnalysis source seq params => some ⟨source, seq, 0x0C, params⟩
  | .resetPart source seq params => some ⟨source, seq, 0x0D, params⟩
  | .ackEvents source seq params => some ⟨source, seq, 0x10, params⟩
  | .clearRaw source seq params => some ⟨source, seq, 0x11, params⟩
  | .setMask source seq params => some ⟨source, seq, 0x12, params⟩
  | .clearMask source seq params => some ⟨source, seq, 0x13, params⟩
  | .readEvents source seq params => some ⟨source, seq, 0x14, params⟩
  | .armSnapshot source seq params => some ⟨source, seq, 0x18, params⟩
  | .readSnapshot source seq params => some ⟨source, seq, 0x19, params⟩
  | .releaseSnapshot source seq params => some ⟨source, seq, 0x1A, params⟩
  | _ => none

/-- Port C hears a non-control frame and hands it to the classifier: the part is not held in reset, no accepted mark's
reset is pending, and Port C is UP or in CONFIRM (R4, R5, R12, R34). -/
def State.hearsOnC (s : State) : Prop :=
  s.pins.held = none ∧ s.links.markReset = none ∧ (s.links.c.link = .up ∨ s.links.c.link = .confirm)

/-- Port S hears a non-control frame and hands it to the classifier (R4, R5, R9, R12, R34). -/
def State.hearsOnS (s : State) : Prop :=
  s.pins.held = none ∧ s.settings.portSEnable = true ∧ s.links.markReset = none ∧
    (s.links.s.link = .up ∨ s.links.s.link = .confirm)

/-- The ports after Port S has heard a good non-control frame (R4, R5). -/
def Links.heardOnS (l : Links) : Links :=
  if l.s.link = .up then { l with s := { l.s with badRun := 0 } } else { l with s := l.s.intoUp }

/-- Port C hears requests and none is in progress (R167). -/
def State.takesRequests (s : State) : Prop := s.hearsOnC ∧ s.mgmt.request = none

/-- The ports after Port C has heard a good non-control frame: in UP the consecutive bad-check count is 0 (R5); from
CONFIRM it has entered UP with its timers stopped and PRESENCE owed (R4, R5, R10). -/
def Links.heardOnC (l : Links) : Links :=
  if l.c.link = .up then { l with c := { l.c with badRun := 0 } }
  else { l with c := l.c.intoUp, presenceOwed := true }

/-- The state in which a taken request acts: Port C has heard it, and it is in the request buffer (R167). -/
def State.taken (s : State) (r : Request) : State :=
  { s with links := s.links.heardOnC, mgmt := { s.mgmt with request := some r } }

/-- The Report Queue after the reply to the request in progress has been offered (R155). -/
def ReportQueue.withReply (q : ReportQueue) (r : Request) (status : Status) (data : List Byte) : ReportQueue :=
  if q.records.length < 64 then
    { q with records := q.records ++ [⟨r.source, .reply ⟨r.seq, r.code, status, data⟩⟩] }
  else { q with waiting := q.waiting ++ [.reply r.source ⟨r.seq, r.code, status, data⟩] }

/-- The request buffer after the reply has been offered: empty when the reply entered, the request still in progress
when it waits (R155, R167). -/
def ReportQueue.inProgress (q : ReportQueue) (r : Request) : Option Request :=
  if q.records.length < 64 then none else some r

/-- The state after a request has been taken and answered, and nothing else done. -/
def State.answered (s : State) (r : Request) (status : Status) (data : List Byte) : State :=
  { s with
    links := s.links.heardOnC
    rep := s.rep.withReply r status data
    mgmt := { s.mgmt with request := s.rep.inProgress r } }

end Sys2Proof.Machine
end

