-- ==== Sys2Proof/Certificates/Slice0/Obligations.lean ====
section
/-! DEFINITION. The statements about the part that are to be proved. -/

open Sys2Proof Sys2Proof.Machine

/-! ## Steps and the idle part -/

/-- A step with a command in front of the queue is that command's meaning on the state with the queue's rest. -/
def Obligations.StepRunsFrontCommand : Prop :=
  ∀ (c : Instr) (rest : List Instr) (s : State),
    step { s with pending := c :: rest } = exec c { s with pending := rest }

/-- On an empty queue a step lets 50 ns pass (the model's choice, log 4): every running timer counts one unit toward its
limit and stays at it, and nothing else changes. The limits, in units of 50 ns: the mask timer 100 ms, a phase timer 4 ms,
or 5 ms in a retry attempt's SEEK, a settle timer 100 us, a retry timer 250 ms, a stale timer the active stale timeout,
the evaluation timer its duration, the commit timer its timeout, the hold timer its limit. While the part is held in reset
only the mask timer runs (R16, R193). -/
def Obligations.IdleStepAdvancesTimersOnly : Prop :=
  ∀ s : State, s.pending = [] →
    let count := fun (limit k : Nat) => if k < limit then k + 1 else k
    let port := fun (x : PortState) => { x with
      phase := x.phase.map (count (if x.link = .seek ∧ x.attempt = true then 100000 else 80000))
      settle := x.settle.map (count 2000)
      retry := x.retry.map (count 5000000) }
    let masked := { s.links with mask := s.links.mask.map (count 2000000) }
    (s.pins.held ≠ none → step s = .next { s with links := masked }) ∧
    (s.pins.held = none → step s = .next { s with
      links := { masked with s := port s.links.s, c := port s.links.c }
      sources := s.sources.map (fun e => { e with timer := e.timer.map (count (s.settings.staleMs * 20000)) })
      ana := { s.ana with engine := s.ana.engine.map (fun e => { e with elapsed := count e.duration e.elapsed }) }
      mgmt := { s.mgmt with
        commit := s.mgmt.commit.map (fun c => { c with timer := c.timer.map (count (c.timeoutMs * 20000)) })
        hold := s.mgmt.hold.map (fun h => { h with elapsed := count (h.limitMs * 20000) h.elapsed }) } })

/-! ## Resets -/

/-- The value of every piece of state when a full reset takes effect (R12, R33, R43, R74, R76, R110, R125, R150, R166,
R193, R209). -/
def Obligations.FullResetValues : Prop :=
  ∀ (queue : List Instr) (straps : BitVec 3) (mask : Option Nat) (cause : ResetCause),
    let t := State.fullReset queue straps mask cause
    let address : Addr := 48 + straps.setWidth 6
    t.pending = queue ∧ t.pins = ⟨straps, none, false⟩ ∧
    (∀ p : Port, t.port p = ⟨.seek, some 0, false, false, none, none, 0, 0,
      some ⟨.control, buildFrame 0x01 63 address 0 [0x01]⟩⟩) ∧
    t.links.mask = mask ∧ t.links.cause = cause ∧ t.links.presenceOwed = false ∧ t.links.markReset = none ∧
    t.links.refusalDeferred = false ∧
    t.fwd = ⟨[], [], .event, 0⟩ ∧
    (∀ n : Node, t.sources[n] = ⟨.silent, none, none, 0, 0, 0⟩) ∧
    (∀ g : Group, (t.group g).state = .off ∧ (t.group g).gen = 0 ∧ (t.group g).counter = 0 ∧ (t.group g).rejects = 0 ∧
      (t.group g).arm = false ∧ (t.group g).lastRef = none ∧ (t.group g).late = 0 ∧
      (∀ c : Chan, (t.group g).frontiers[c] = none ∧ (t.group g).store[c] = []) ∧
      (∀ d : Desc, (t.group g).descs[d] = ⟨.free, 0, 0, none, none, 0, Vector.replicate 8 0, false⟩) ∧
      t.ana.lastVerdicts[g] = none ∧ t.vector g = 0 ∧ t.latch g = none) ∧
    t.ana.queue = [] ∧ t.ana.engine = none ∧
    (∀ i : Fin 96, t.chk.active[i] = .clear) ∧ t.chk.staging = none ∧
    t.disp = ⟨0, ⟨[], [], [], [], [], []⟩, 0, 0, 0, none, .resetMarkRefused⟩ ∧
    t.rep = ⟨[], 0, []⟩ ∧
    t.mgmt.request = none ∧ t.mgmt.restartMark = false ∧ t.mgmt.activeGen = 0 ∧ t.mgmt.commit = none ∧
    t.mgmt.hold = none ∧ t.mgmt.staging = t.mgmt.active ∧
    (∀ i : Fin 64, t.mgmt.active.channelMap[i] = ⟨false, 0, 0, 0, 0, .dcVoltage, 4096, 0⟩) ∧
    (∀ i : Fin 8, t.mgmt.active.plans[i] = ⟨false, 0, 1, .l1, 0, 96, 192, 8, 0, [1], .off, []⟩) ∧
    (∀ i : Fin 96, t.mgmt.active.limits[i] = ⟨false, 0, ⟨0, .mean, 0⟩, .above, 0, 0, 1, 1, 0⟩) ∧
    (∀ i : Fin 32, t.mgmt.active.signatures[i] = ⟨false, 0, 0, 0, 1, .advisory⟩) ∧
    (∀ i : Fin 16, t.mgmt.active.events[i] = ⟨0, .polled⟩) ∧
    (∀ i : Fin 4, t.mgmt.active.routes[i] = ⟨false, 0⟩) ∧
    t.mgmt.active.settings = ⟨address, 0, 0, false, 10, 500, false, true, true⟩ ∧
    t.snap.state = .empty ∧ (∀ (i : Fin 192) (k : Fin 4), t.snap.buffer[i][k] = none)

/-- Power and RESET_N (R12, R16, R118; that a part held in reset loses an awaited mark is log 13): applying power or
pulling RESET_N low silences both ports and releases ALERT_N, power-up also stops the mask timer; RESET_N high takes the
full reset with the cause recorded, and does nothing to a part that is not held. -/
def Obligations.ResetPinHoldsAndResets : Prop :=
  ∀ s : State,
    (∀ straps : BitVec 3, exec (.powerApplied straps) s = .next { s with
      pins := ⟨straps, some .powerOn, false⟩
      links := { s.links with
        s := { s.links.s with tx := none }, c := { s.links.c with tx := none }
        mask := none, markReset := none, refusalDeferred := false }
      mgmt := { s.mgmt with restartMark := false } }) ∧
    exec .resetNLow s = .next { s with
      pins := ⟨s.pins.straps, some (s.pins.held.getD .resetPin), false⟩
      links := { s.links with
        s := { s.links.s with tx := none }, c := { s.links.c with tx := none }
        markReset := none, refusalDeferred := false }
      mgmt := { s.mgmt with restartMark := false } } ∧
    (s.pins.held = none → exec .resetNHigh s = .next s) ∧
    (∀ cause : ResetCause, s.pins.held = some cause → s.links.refusalDeferred = false →
      exec .resetNHigh s = .next (State.fullReset s.pending s.pins.straps s.links.mask cause))

/-- While the part is held in reset no received frame, mark, request, loss of signal or expiry of a timer other than the
mask timer has any effect (R12, R129, R193; log 5). -/
def Obligations.HeldPartTakesNothing : Prop :=
  ∀ s : State, s.pins.held ≠ none →
    (∀ (p : Port) (body : List Byte), exec (.linkControlReceived p body) s = .next s) ∧
    (∀ p : Port, exec (.badCheckFrame p) s = .next s ∧ exec (.lossOfSignal p) s = .next s ∧
      exec (.phaseMinimumReached p) s = .next s ∧ exec (.phaseDeadline p) s = .next s ∧
      exec (.settleTimerExpiry p) s = .next s ∧ exec (.retryAttempt p) s = .next s ∧
      ∀ m : Mark, exec (.resetMarkReceived p m) s = .next s) ∧
    (∀ frame : List Byte, exec (.portSFrameReceived frame) s = .next s ∧ exec (.portCFrameReceived frame) s = .next s) ∧
    (∀ n : Node, exec (.staleTimeout n) s = .next s) ∧
    exec .evaluationEnd s = .next s ∧ exec .eventSelection s = .next s ∧ exec .commitTimeout s = .next s ∧
    exec .holdExpiry s = .next s ∧
    (∀ (i : Instr) (r : Request), requestOf i = some r → exec i s = .next s)

/-! ## Bring-up (R2 to R5, R8) -/

/-- Link control frames received in DOWN, SEEK and ALIGN (R2, R3, R8): the port's next state, nothing else changing. -/
def Obligations.BringUpFollowsPhases : Prop :=
  ∀ (s : State) (p : Port), s.pins.held = none → (p = .s → s.settings.portSEnable = true) →
    let x := s.port p
    let hears := fun (v : Byte) => exec (.linkControlReceived p [v]) s
    (x.link = .down →
      hears 0x01 = .next (s.setPort p (x.intoSeek s.partAddr false true)) ∧
      ∀ v : Byte, v ≠ 0x01 → hears v = .next s) ∧
    (∀ k : Nat, x.link = .seek → x.phase = some k →
      (∀ v : Byte, v = 0x01 ∨ v = 0x02 →
        hears v = .next (s.setPort p
          (if 40000 ≤ k then { x with link := .align, phase := some 0, early := false, attempt := false }
           else { x with early := true }))) ∧
      ∀ v : Byte, v ≠ 0x01 → v ≠ 0x02 → hears v = .next s) ∧
    (∀ k : Nat, x.link = .align → x.phase = some k →
      (∀ v : Byte, v = 0x02 ∨ v = 0x03 →
        hears v = .next (s.setPort p
          (if 40000 ≤ k then { x with link := .confirm, phase := some 0, early := false, settle := none }
           else { x with early := true }))) ∧
      ∀ v : Byte, v ≠ 0x02 → v ≠ 0x03 → hears v = .next s)

/-- Link control frames received in CONFIRM (R4): the table, nothing else changing but that Port C owes PRESENCE when it
enters UP (R10). That early arrival keeps its value in UP is the model's choice (log 8). -/
def Obligations.ConfirmFollowsItsTable : Prop :=
  ∀ (s : State) (p : Port), s.pins.held = none → (p = .s → s.settings.portSEnable = true) → (s.port p).link = .confirm →
    let x := s.port p
    let hears := fun (v : Byte) => exec (.linkControlReceived p [v]) s
    (∀ k : Nat, x.phase = some k → x.settle = none → x.early = false →
      hears 0x03 = .next (s.setPort p (if 40000 ≤ k then { x with settle := some 0 } else { x with early := true }))) ∧
    (x.settle ≠ none ∨ x.early = true → hears 0x03 = .next s) ∧
    (∃ t : State, hears 0x04 = .next t ∧ t.port p = x.intoUp ∧ t.port p.other = s.port p.other ∧
      t.links.presenceOwed = (p == .c || s.links.presenceOwed) ∧
      { t with links := s.links } = s ∧
      { t.links with s := s.links.s, c := s.links.c, presenceOwed := s.links.presenceOwed } = s.links) ∧
    hears 0x01 = .next (s.setPort p (x.intoSeek s.partAddr false true)) ∧
    (∀ v : Byte, v ≠ 0x01 → v ≠ 0x03 → v ≠ 0x04 → hears v = .next s)

/-- Link control frames other than SEEK and marks received in UP (R5, R19): idle fill and the other phases only set the
consecutive bad-check count to 0; a malformed one does so too and raises MALFORMED_FRAME, and raises nothing in another
state. -/
def Obligations.LinkControlInUp : Prop :=
  ∀ (s : State) (p : Port), s.pins.held = none → (p = .s → s.settings.portSEnable = true) →
    ((s.port p).link = .up →
      (∀ v : Byte, v = 0x02 ∨ v = 0x03 ∨ v = 0x04 →
        exec (.linkControlReceived p [v]) s = .next (s.setPort p { s.port p with badRun := 0 })) ∧
      (∀ body : List Byte, controlOf body = none →
        exec (.linkControlReceived p body) s =
          .next { s.setPort p { s.port p with badRun := 0 } with
            disp := { s.disp with pending := s.disp.pending ||| EventKind.flag .malformedFrame } })) ∧
    ((s.port p).link ≠ .up → ∀ body : List Byte, controlOf body = none →
      exec (.linkControlReceived p body) s = .next s)

/-- The phase minimum (R2 to R4): an early arrival takes effect, the phase timer standing at 2 ms or more; without one
only the timer stands so. The phase deadline (R2 to R4, R8): SEEK, ALIGN, and CONFIRM with neither a settle nor an early
arrival end in DOWN with the retry timer restarted; after a failed attempt it stands at that attempt's 5 ms (log 9).
Other states are unchanged. That in DOWN the phase timer is stopped and early arrival and attempt are clear is the
model's choice (log 8). -/
def Obligations.PhaseMinimumAndDeadline : Prop :=
  ∀ (s : State) (p : Port), s.pins.held = none →
    let x := s.port p
    (∀ k : Nat, x.phase = some k →
      let y := { x with phase := some (max k 40000) }
      (x.early = false → exec (.phaseMinimumReached p) s = .next (s.setPort p y)) ∧
      (x.early = true → x.link = .seek →
        exec (.phaseMinimumReached p) s =
          .next (s.setPort p { x with link := .align, phase := some 0, early := false, attempt := false })) ∧
      (x.early = true → x.link = .align →
        exec (.phaseMinimumReached p) s =
          .next (s.setPort p { x with link := .confirm, phase := some 0, early := false, settle := none })) ∧
      (x.early = true → x.link = .confirm →
        exec (.phaseMinimumReached p) s = .next (s.setPort p { y with settle := some (x.settle.getD 0) }))) ∧
    (x.link = .seek →
      exec (.phaseDeadline p) s = .next (s.setPort p (x.intoDown (some (if x.attempt then 100000 else 0))))) ∧
    (x.link = .align → exec (.phaseDeadline p) s = .next (s.setPort p (x.intoDown (some 0)))) ∧
    (x.link = .confirm → x.settle = none → x.early = false →
      exec (.phaseDeadline p) s = .next (s.setPort p (x.intoDown (some 0)))) ∧
    (x.link = .confirm → x.settle ≠ none ∨ x.early = true → exec (.phaseDeadline p) s = .next s) ∧
    (x.link = .up ∨ x.link = .down → exec (.phaseDeadline p) s = .next s)

/-- The settle timer's 100 us bring a port in CONFIRM into UP, Port C then owing PRESENCE (R4, R5, R10); the retry
timer's 250 ms start a retry attempt in DOWN (R8). In any other state neither does anything. The mask timer reaching 100
ms stops it and does nothing else (R16). That early arrival keeps its value in UP is the model's choice (log 8). -/
def Obligations.SettleRetryAndMaskExpiries : Prop :=
  (∀ s : State, exec .maskTimerExpiry s = .next { s with links := { s.links with mask := none } }) ∧
  ∀ (s : State) (p : Port), s.pins.held = none →
    let x := s.port p
    (x.link = .confirm → x.settle ≠ none →
      ∃ t : State, exec (.settleTimerExpiry p) s = .next t ∧ t.port p = x.intoUp ∧
        t.port p.other = s.port p.other ∧ t.links.presenceOwed = (p == .c || s.links.presenceOwed) ∧
        { t with links := s.links } = s ∧
        { t.links with s := s.links.s, c := s.links.c, presenceOwed := s.links.presenceOwed } = s.links) ∧
    (x.link ≠ .confirm ∨ x.settle = none → exec (.settleTimerExpiry p) s = .next s) ∧
    (x.link = .down → x.retry ≠ none →
      exec (.retryAttempt p) s = .next (s.setPort p (x.intoSeek s.partAddr true false))) ∧
    (x.link ≠ .down ∨ x.retry = none → exec (.retryAttempt p) s = .next s)

/-! ## Bad checks and leaving UP (R6, R7, R40) -/

/-- A frame with a bad check that does not take its port down (R6, R9): the bad-check counter increases, held at 65,535,
in UP also the consecutive count; a disabled Port S counts nothing. A received frame whose check is bad is such a frame.
Loss of signal outside UP has no effect. -/
def Obligations.BadCheckIsCounted : Prop :=
  ∀ (s : State) (p : Port), s.pins.held = none →
    let x := s.port p
    let counted := min 65535 (x.badCount + 1)
    ((p = .s → s.settings.portSEnable = true) → x.link ≠ .up →
      exec (.badCheckFrame p) s = .next (s.setPort p { x with badCount := counted })) ∧
    ((p = .s → s.settings.portSEnable = true) → x.link = .up → x.badRun < 7 →
      exec (.badCheckFrame p) s = .next (s.setPort p { x with badCount := counted, badRun := x.badRun + 1 })) ∧
    (p = .s → s.settings.portSEnable = false → exec (.badCheckFrame p) s = .next s) ∧
    (∀ frame : List Byte, goodCheck frame = false →
      exec (.portSFrameReceived frame) s = exec (.badCheckFrame .s) s ∧
      exec (.portCFrameReceived frame) s = exec (.badCheckFrame .c) s) ∧
    (x.link ≠ .up → exec (.lossOfSignal p) s = .next s)

/-- A port leaves UP by loss of signal, by its eighth consecutive bad check, or for SEEK by a good SEEK frame, while no
commit is pending and no reset is coming (R5, R6, R7, R10, R27, R28, R40): LINK_DOWN is raised, the other port is
untouched; Port C's forward buffer is emptied and its owed PRESENCE lapses; with Port S every TRACKING source becomes
STALE. That in DOWN the phase timer is stopped and early arrival and attempt are clear is the model's choice (log 8). -/
def Obligations.PortLeavesUp : Prop :=
  ∀ (s : State) (p : Port) (i : Instr), s.pins.held = none → (p = .s → s.settings.portSEnable = true) →
    (s.port p).link = .up → s.calm → (∀ f : TxFrame, (s.port p).tx = some f → f.sort ≠ .report true) →
    (i = .lossOfSignal p ∨ (i = .badCheckFrame p ∧ 7 ≤ (s.port p).badRun) ∨ i = .linkControlReceived p [0x01]) →
    ∃ t : State, exec i s = .next t ∧
      (i ≠ .linkControlReceived p [0x01] →
        (t.port p).link = .down ∧ (t.port p).phase = none ∧ (t.port p).early = false ∧ (t.port p).attempt = false ∧
        (t.port p).settle = none ∧ (t.port p).retry = some 0 ∧ (t.port p).tx = none) ∧
      (i = .linkControlReceived p [0x01] →
        t.port p = { s.port p with tx := none, badRun := 0 }.intoSeek s.partAddr false true) ∧
      (t.port p).badCount = (if i = .badCheckFrame p then min 65535 ((s.port p).badCount + 1) else (s.port p).badCount) ∧
      t.port p.other = s.port p.other ∧
      KindSet.has t.disp.pending .linkDown = true ∧
      (p = .c → t.fwd = { s.fwd with sToC := [] } ∧ t.links.presenceOwed = false ∧ t.sources = s.sources ∧
        t.ana = s.ana) ∧
      (p = .s → t.fwd = s.fwd ∧ t.links.presenceOwed = s.links.presenceOwed ∧
        (∀ n : Node, t.sources[n] =
          if s.sources[n].state = .tracking then { s.sources[n] with state := .stale, timer := none }
          else s.sources[n]) ∧
        ((∃ n : Node, s.sources[n].state = .tracking) → KindSet.has t.disp.pending .sourceLost = true)) ∧
      t.snap = s.snap ∧ t.mgmt.active = s.mgmt.active ∧ t.mgmt.staging = s.mgmt.staging ∧
      t.mgmt.request = s.mgmt.request ∧ t.chk = s.chk ∧ t.latches = s.latches ∧ t.pins = s.pins

/-! ## Reset marks (R14 to R17) -/

/-- A mark outside UP does nothing; a refused mark in UP only sets the consecutive bad-check count to 0 and raises
RESET_MARK_REFUSED, at once when no reset is coming and otherwise after that reset (R14, R15). -/
def Obligations.RefusedMarkIsReported : Prop :=
  ∀ (s : State) (p : Port) (m : Mark), s.pins.held = none →
    let heard := s.setPort p { s.port p with badRun := 0 }
    let accept := match p with | .s => s.settings.acceptS | .c => s.settings.acceptC
    let coming := s.links.markReset ≠ none ∨ s.mgmt.restartMark = true
    ((s.port p).link ≠ .up → exec (.resetMarkReceived p m) s = .next s) ∧
    ((s.port p).link = .up → ¬ coming → s.links.mask ≠ none ∨ (m = .sectionMark ∧ accept = false) →
      exec (.resetMarkReceived p m) s =
        .next { heard with
          disp := { s.disp with pending := s.disp.pending ||| EventKind.flag .resetMarkRefused } }) ∧
    ((s.port p).link = .up → coming →
      exec (.resetMarkReceived p m) s =
        .next { heard with links := { heard.links with refusalDeferred := true } })

/-- An accepted mark while the other port is UP: the mask timer starts and the same mark goes out of the other port at
once, cutting off what it sends; the reset waits for that mark's end (R14, R15, R16, R20). -/
def Obligations.AcceptedMarkIsPassedOn : Prop :=
  ∀ (s : State) (p : Port) (m : Mark), s.pins.held = none → (s.port p).link = .up → s.links.mask = none →
    s.links.markReset = none → s.mgmt.restartMark = false →
    (m = .sectionMark → (match p with | .s => s.settings.acceptS | .c => s.settings.acceptC) = true) →
    (s.port p.other).link = .up →
    let sent : TxFrame := ⟨.mark, buildFrame 0x01 63 s.partAddr 0 [match m with | .stationMark => 0x10 | .sectionMark => 0x11]⟩
    ∃ t : State, exec (.resetMarkReceived p m) s = .next t ∧
      t.port p = { s.port p with badRun := 0 } ∧
      t.port p.other = { s.port p.other with tx := some sent } ∧
      t.links.mask = some 0 ∧ t.links.markReset = some ⟨m, p⟩ ∧
      { t with links := s.links } = s ∧
      { t.links with s := s.links.s, c := s.links.c, mask := s.links.mask, markReset := s.links.markReset } = s.links

/-- An accepted mark while the other port is not UP: its reset takes effect at once, the mask timer running from 0 (R12,
R13, R15, R16). -/
def Obligations.AcceptedMarkResetsAtOnce : Prop :=
  ∀ (s : State) (p : Port), s.pins.held = none → (s.port p).link = .up → s.links.mask = none → s.calm →
    s.links.refusalDeferred = false → (s.port p.other).link ≠ .up →
    let cause : ResetCause := match p with | .s => .stationMarkS | .c => .stationMarkC
    let heard := s.setPort p { s.port p with badRun := 0 }
    exec (.resetMarkReceived p .stationMark) s =
      .next (State.fullReset s.pending s.pins.straps (some 0) cause) ∧
    ((match p with | .s => s.settings.acceptS | .c => s.settings.acceptC) = true →
      ∃ t : State, exec (.resetMarkReceived p .sectionMark) s = .next t ∧
        t.RestartedFrom { heard with links := { heard.links with mask := some 0 } } ∧ t.rep = ⟨[], 0, []⟩)

/-- The end of a propagated mark (R12, R13, R14, R15, R17): the reset it stood for takes effect, a refusal held back
being raised after it; with none awaited nothing happens. A RESTART_ANALYSIS that waited is answered DONE. -/
def Obligations.MarkEndTakesItsReset : Prop :=
  ∀ s : State, s.mgmt.commit = none →
    (∀ p : Port, s.links.markReset = some ⟨.stationMark, p⟩ → (∃ b, (s.port p.other).tx = some ⟨.mark, b⟩) →
      ∃ t : State, exec .markTransmissionEnd s = .next t ∧
        { t with disp := Dispatcher.reset } = State.fullReset s.pending s.pins.straps s.links.mask
          (match p with | .s => .stationMarkS | .c => .stationMarkC) ∧
        { t.disp with pending := 0 } = Dispatcher.reset ∧
        t.disp.pending = if s.links.refusalDeferred then EventKind.flag .resetMarkRefused else 0) ∧
    (∀ p : Port, s.links.markReset = some ⟨.sectionMark, p⟩ → (∃ b, (s.port p.other).tx = some ⟨.mark, b⟩) →
      ∃ t : State, exec .markTransmissionEnd s = .next t ∧ t.RestartedFrom s ∧ t.rep = ⟨[], 0, []⟩) ∧
    (∀ r : Request, s.links.markReset = none → s.mgmt.restartMark = true → s.mgmt.request = some r →
      (∃ b, (s.port .s).tx = some ⟨.mark, b⟩) →
      ∃ t : State, exec .markTransmissionEnd s = .next t ∧ t.RestartedFrom s ∧
        t.rep = ⟨[⟨r.source, .reply ⟨r.seq, r.code, .done, []⟩⟩], 0, []⟩) ∧
    (s.links.markReset = none → s.mgmt.restartMark = false → exec .markTransmissionEnd s = .next s)

/-! ## Received frames (R19, R21 to R28, R34 to R39) -/

/-- Good non-control frames and requests on a port that is neither UP nor in CONFIRM are discarded without effect; while
an accepted mark's reset is pending they are heard but not classified (R2, R3, R5, R8, R15, R19, R34). -/
def Obligations.UnheardFramesAreDiscarded : Prop :=
  ∀ (s : State) (frame : List Byte), goodCheck frame = true →
    (malformedHeader frame = true ∨ kindByte frame ≠ kindLinkControl) →
    ((s.port .s).link ≠ .up → (s.port .s).link ≠ .confirm → exec (.portSFrameReceived frame) s = .next s) ∧
    ((s.port .c).link ≠ .up → (s.port .c).link ≠ .confirm →
      exec (.portCFrameReceived frame) s = .next s ∧
      ∀ (i : Instr) (r : Request), requestOf i = some r → exec i s = .next s) ∧
    (s.pins.held = none → s.links.markReset ≠ none →
      ((s.port .s).link = .up → s.settings.portSEnable = true →
        exec (.portSFrameReceived frame) s = .next (s.setPort .s { s.port .s with badRun := 0 })) ∧
      ((s.port .c).link = .up →
        exec (.portCFrameReceived frame) s = .next (s.setPort .c { s.port .c with badRun := 0 }) ∧
        ∀ (i : Instr) (r : Request), requestOf i = some r →
          exec i s = .next (s.setPort .c { s.port .c with badRun := 0 })))

/-- What Port S hands on without analysis (R19, R21, R22, R26): any frame that is no SAMPLE of a node is offered to the
S-to-C buffer; so is a frame with a malformed header or a SAMPLE of a node with a malformed payload, which also raises
MALFORMED_FRAME. The offer finds a place, is overrun, or is discarded with Port C not UP; nothing else changes. -/
def Obligations.PortSForwardsUnanalysed : Prop :=
  ∀ (s : State) (frame : List Byte), s.hearsOnS → goodCheck frame = true →
    let isSample := malformedHeader frame = false ∧ kindByte frame = kindSample ∧ nodeOf (sourceByte frame) ≠ none
    let malformed := malformedHeader frame = true ∨ (isSample ∧ sampleWellFormed (payload frame) = false)
    (malformedHeader frame = true ∨ kindByte frame ≠ kindLinkControl) →
    ¬ (isSample ∧ sampleWellFormed (payload frame) = true) →
    ∃ t : State, exec (.portSFrameReceived frame) s = .next t ∧
      { t with links := s.links, fwd := s.fwd, disp := s.disp } = s ∧ t.links = s.links.heardOnS ∧
      t.fwd = { s.fwd with
        sToC := if s.links.c.link = .up ∧ s.fwd.sToC.length < 8 then s.fwd.sToC ++ [frame] else s.fwd.sToC } ∧
      { t.disp with pending := s.disp.pending } = s.disp ∧
      (∀ k : EventKind, KindSet.has t.disp.pending k = true ↔
        (KindSet.has s.disp.pending k = true ∨
          (k = .forwardOverrun ∧ s.links.c.link = .up ∧ 8 ≤ s.fwd.sToC.length) ∨
          (k = .malformedFrame ∧ malformed)))

/-- A well-formed SAMPLE frame of a node on Port S (R21, R26, R35 to R39, R48 to R51, R56): it is forwarded all the
same. Its node's entry adopts it, takes it in order, or counts a gap and raises SOURCE_GAP with its detail; the
samples it delivers, by the bank each group reads at that moment, then go one after another to the Window Engine, each
an event with the judgements that close it (log 39). Or the entry counts it as duplicate or out of order, and nothing
else changes. A raw value is scaled to (raw - offset) times gain over 4,096, rounded toward zero, saturated. -/
def Obligations.SampleFrameIsJudged : Prop :=
  (∀ (e : MapEntry) (r : Int),
    let q := Int.tdiv ((r - e.offset) * e.gain) 4096
    (q < -32767 → e.scale r = -32767) ∧ (32767 < q → e.scale r = 32767) ∧
    (-32767 ≤ q → q ≤ 32767 → e.scale r = q)) ∧
  ∀ (s : State) (frame : List Byte) (n : Node), s.hearsOnS → goodCheck frame = true →
    malformedHeader frame = false → kindByte frame = kindSample → nodeOf (sourceByte frame) = some n →
    sampleWellFormed (payload frame) = true →
    let e := s.sources[n]
    let p := payload frame
    let slots := (byteAt p 3).toNat
    let switched := fun (g : Group) => s.mgmt.commit.map Commit.stagingGen = some (s.group g).gen
    let entries := fun (b : Bank) (slot : Nat) =>
      (b.channelMap.toList.find? (fun m => m.valid && m.node == n && m.slot.val == slot)).toList
    let samples : List ChannelSample := (List.range (byteAt p 2).toNat).flatMap (fun i =>
      (List.range slots).flatMap (fun slot =>
        ((entries s.mgmt.active slot).filter (fun m => ¬ switched m.group) ++
          (entries s.mgmt.staging slot).filter (fun m => switched m.group)).map (fun m =>
            ⟨m.group, m.chan, (byteAt p 0 ++ byteAt p 1) + BitVec.ofNat 16 i,
              m.scale (byteAt p (4 + 2 * (i * slots + slot)) ++ byteAt p (4 + 2 * (i * slots + slot) + 1)).toInt⟩)))
    let heard : State := { s with
      links := s.links.heardOnS
      fwd := { s.fwd with
        sToC := if s.links.c.link = .up ∧ s.fwd.sToC.length < 8 then s.fwd.sToC ++ [frame] else s.fwd.sToC }
      disp := if s.links.c.link = .up ∧ 8 ≤ s.fwd.sToC.length then s.disp.raise .forwardOverrun else s.disp }
    let judged := fun (x : SourceEntry) => { heard with sources := s.sources.set n x }
    let delivered := fun (a : State) =>
      samples.foldl (fun b x => (b.takeSample x.group x.chan x.tick x.value).finish) a
    let adopted := { e with state := .tracking, expected := some (seqByte frame + 1), timer := some 0 }
    let does := exec (.portSFrameReceived frame) s
    (e.state ≠ .tracking → does = .next (delivered (judged adopted))) ∧
    (∀ x : Byte, e.state = .tracking → e.expected = some x →
      let g := (seqByte frame - x).toNat
      (g = 0 → does = .next (delivered (judged adopted))) ∧
      (1 ≤ g → g ≤ 127 → does = .next (delivered { judged { adopted with missed := min 65535 (e.missed + g) } with
        disp := heard.disp.raiseDetail .sourceGap (.sourceGap n (seqByte frame) g) })) ∧
      (g = 255 → does = .next (judged { e with duplicates := min 65535 (e.duplicates + 1) })) ∧
      (128 ≤ g → g ≤ 254 → does = .next (judged { e with outOfOrder := min 65535 (e.outOfOrder + 1) })))

/-- What Port C forwards, discards and takes (R19, R23, R24, R28): a frame with a malformed header is offered to the C-to-S
buffer and raises MALFORMED_FRAME; a frame for another address is offered; a frame that is no request, for the part's own
address, is discarded; nothing else changes. Of a REQUEST for the part's address or for 63 the copy of one for 63 is
offered, and then, the copy placed or not (this order is the model's choice, log 24), one from address 63 or with a
payload under 2 bytes raises MALFORMED_FRAME, and any other is taken as the frame of its request row is. -/
def Obligations.PortCForwardsOrDiscards : Prop :=
  ∀ (s : State) (frame : List Byte), s.hearsOnC → goodCheck frame = true →
    let toPart := addrOf (destByte frame) = s.partAddr
    let taken := malformedHeader frame = false ∧ kindByte frame = kindRequest ∧ (toPart ∨ addrOf (destByte frame) = 63)
    let offered := malformedHeader frame = true ∨ ¬ toPart
    let does := exec (.portCFrameReceived frame) s
    ((malformedHeader frame = true ∨ kindByte frame ≠ kindLinkControl) → ¬ taken →
      ∃ t : State, does = .next t ∧
        { t with links := s.links, fwd := s.fwd, disp := s.disp } = s ∧ t.links = s.links.heardOnC ∧
        (offered → t.fwd = { s.fwd with
          cToS := if s.settings.portSEnable = true ∧ s.fwd.cToS.length < 4 then s.fwd.cToS ++ [frame] else s.fwd.cToS }) ∧
        (¬ offered → t.fwd = s.fwd) ∧
        { t.disp with pending := s.disp.pending } = s.disp ∧
        (∀ k : EventKind, KindSet.has t.disp.pending k = true ↔
          (KindSet.has s.disp.pending k = true ∨
            (k = .forwardOverrun ∧ offered ∧ s.settings.portSEnable = true ∧ 4 ≤ s.fwd.cToS.length) ∨
            (k = .malformedFrame ∧ malformedHeader frame = true)))) ∧
    (taken →
      let copied : State := { s with
        fwd := { s.fwd with
          cToS := if ¬ toPart ∧ s.settings.portSEnable = true ∧ s.fwd.cToS.length < 4 then s.fwd.cToS ++ [frame]
            else s.fwd.cToS }
        disp := if ¬ toPart ∧ s.settings.portSEnable = true ∧ 4 ≤ s.fwd.cToS.length then s.disp.raise .forwardOverrun
          else s.disp }
      ((payload frame).length < 2 ∨ addrOf (sourceByte frame) = 63 →
        does = .next { copied with links := s.links.heardOnC, disp := copied.disp.raise .malformedFrame }) ∧
      (2 ≤ (payload frame).length → addrOf (sourceByte frame) ≠ 63 →
        does = exec (.portCFrameReceived
          (buildFrame kindRequest s.partAddr (addrOf (sourceByte frame)) 0 (payload frame))) copied))

/-- A request row is the arrival on Port C of the REQUEST frame, addressed to the part, that carries it: for every
request, in every state (log 6; R18, R19, R23, R24). -/
def Obligations.RequestRowIsItsFrame : Prop :=
  ∀ (i : Instr) (r : Request) (s : State), requestOf i = some r →
    exec i s = exec (.portCFrameReceived (buildFrame kindRequest s.partAddr r.source 0 (r.code :: r.seq :: r.params))) s

/-! ## Frame ends (R1, R10, R17, R20, R29 to R32) -/

/-- The end of a frame on Port C in UP with PRESENCE owed: the PRESENCE frame is handed to the transmitter ahead of
every grant and is no longer owed (R10, R20); outside UP the port's own link control frame follows, or silence in DOWN
(R1). -/
def Obligations.PortCSendsPresenceFirst : Prop :=
  ∀ (s : State) (f : TxFrame), s.links.c.tx = some f → f.sort ≠ .mark → f.sort ≠ .report true →
    (s.links.c.link = .up → s.links.presenceOwed = true →
      exec .portCFrameEnd s = .next { s with
        links := { s.links with
          c := { s.links.c with tx := some ⟨.presence, buildFrame 0x23 63 s.partAddr s.fwd.txSeq
            [0x4A, 0x12, 3, s.partAddr.setWidth 8, s.links.cause.code]⟩ }
          presenceOwed := false }
        fwd := { s.fwd with txSeq := s.fwd.txSeq + 1 } }) ∧
    (s.links.c.link ≠ .up →
      exec .portCFrameEnd s = .next { s with
        links := { s.links with
          c := { s.links.c with tx :=
            match s.links.c.link with
            | .down => none
            | .seek => some ⟨.control, buildFrame 0x01 63 s.partAddr 0 [0x01]⟩
            | .align => some ⟨.control, buildFrame 0x01 63 s.partAddr 0 [0x02]⟩
            | .confirm => some ⟨.control, buildFrame 0x01 63 s.partAddr 0 [0x03]⟩
            | .up => none } } }) ∧
    (s.links.c.link = .up → s.links.presenceOwed = false → s.links.markReset ≠ none →
      exec .portCFrameEnd s = .next { s with
        links := { s.links with c := { s.links.c with
          tx := some ⟨.control, buildFrame 0x01 63 s.partAddr 0 [0x04]⟩ } } })

/-- The C-out Arbiter at the end of a frame on Port C (R30, R31, R32, R141, R158): the first ready source after the last
granted is granted, its head leaves it, and it becomes the last granted; with none ready idle fill is sent. Where items
wait behind a granted record (R155, R157), the first of them takes the place at the tail and the others keep their
order; a waiting reply then ends its request. -/
def Obligations.ArbiterGrantsInRotation : Prop :=
  ∀ (s : State) (f : TxFrame), s.links.c.tx = some f → f.sort ≠ .mark → f.sort ≠ .report true →
    s.links.c.link = .up → s.links.presenceOwed = false → s.links.markReset = none →
    let forward := s.fwd.sToC ≠ []
    let report := s.rep.records ≠ []
    let event := s.disp.slot ≠ none
    let last := s.fwd.lastGranted
    let reportsTurn := last = .forward ∨ (last = .event ∧ ¬ forward) ∨ (last = .report ∧ ¬ event ∧ ¬ forward)
    let sends := fun (sort : TxSort) (bytes : List Byte) =>
      { s.links with c := { s.links.c with tx := some ⟨sort, bytes⟩ } }
    let reports := fun (x : Held) (rest : List Held) => { s with
      links := sends (.report x.record.isResetPartDone)
        (buildFrame 0x21 x.dest s.partAddr s.fwd.txSeq x.record.encode)
      fwd := { s.fwd with lastGranted := .report, txSeq := s.fwd.txSeq + 1 }
      rep := { s.rep with records := rest } }
    (∀ (x : List Byte) (rest : List (List Byte)), s.fwd.sToC = x :: rest →
      (last = .event ∨ (last = .report ∧ ¬ event) ∨ (last = .forward ∧ ¬ report ∧ ¬ event)) →
      exec .portCFrameEnd s = .next { s with
        links := sends .forwarded x, fwd := { s.fwd with sToC := rest, lastGranted := .forward } }) ∧
    (∀ (x : Held) (rest : List Held), s.rep.records = x :: rest → s.rep.waiting = [] → reportsTurn →
      exec .portCFrameEnd s = .next (reports x rest)) ∧
    (∀ x : SlotFrame, s.disp.slot = some x →
      (last = .report ∨ (last = .forward ∧ ¬ report) ∨ (last = .event ∧ ¬ forward ∧ ¬ report)) →
      exec .portCFrameEnd s = .next { s with
        links := sends .event (buildFrame 0x22 x.dest s.partAddr s.fwd.txSeq x.encode)
        fwd := { s.fwd with lastGranted := .event, txSeq := s.fwd.txSeq + 1 }
        disp := { s.disp with slot := none, status := s.disp.status ||| x.kind.flag } }) ∧
    (¬ forward → ¬ report → ¬ event →
      exec .portCFrameEnd s = .next { s with
        links := sends .control (buildFrame 0x01 63 s.partAddr 0 [0x04]) }) ∧
    (∀ (x : Held) (rest : List Held) (w : Waiting) (ws : List Waiting), reportsTurn →
      s.rep.records = x :: rest → s.rep.waiting = w :: ws →
      exec .portCFrameEnd s = .next { reports x rest with
        rep := { s.rep with
          records := rest ++ [match w with
            | .reply dest r => ⟨dest, .reply r⟩
            | .marker m => ⟨s.settings.reportDest, .marker m⟩]
          waiting := ws }
        mgmt := { s.mgmt with request := match w with
          | .reply _ _ => none
          | .marker _ => s.mgmt.request } })

/-- The end of a frame on Port S (R1, R29): in UP with no mark's reset pending the head of the C-to-S buffer follows, or
idle fill when it is empty; otherwise the buffer does not drain and the port's own link control frame follows. -/
def Obligations.PortSDrainsItsBuffer : Prop :=
  ∀ (s : State) (f : TxFrame), s.links.s.tx = some f → f.sort ≠ .mark →
    let sends := fun (x : Option TxFrame) => { s.links with s := { s.links.s with tx := x } }
    let control := fun (v : Byte) => sends (some ⟨.control, buildFrame 0x01 63 s.partAddr 0 [v]⟩)
    (∀ (x : List Byte) (rest : List (List Byte)), s.links.s.link = .up → s.links.markReset = none →
      s.fwd.cToS = x :: rest →
      exec .portSFrameEnd s = .next { s with links := sends (some ⟨.forwarded, x⟩), fwd := { s.fwd with cToS := rest } }) ∧
    (s.links.s.link = .up → s.links.markReset ≠ none ∨ s.fwd.cToS = [] →
      exec .portSFrameEnd s = .next { s with links := control 0x04 }) ∧
    (s.links.s.link = .seek → exec .portSFrameEnd s = .next { s with links := control 0x01 }) ∧
    (s.links.s.link = .align → exec .portSFrameEnd s = .next { s with links := control 0x02 }) ∧
    (s.links.s.link = .confirm → exec .portSFrameEnd s = .next { s with links := control 0x03 }) ∧
    (s.links.s.link = .down → exec .portSFrameEnd s = .next { s with links := sends none })

/-- RESET_PART is taken in every state and answered DONE, Port C being UP as it is taken (R17, R192). The REPORT frame
that carries the DONE reply of a RESET_PART request (R12, R17): its end takes a full reset with cause RESET_REQUEST, and
so does Port C's leaving UP while it is sent, which clears the LINK_DOWN of the leaving (the model's choice, log 36); with
no such frame in transmission RESET_PART_REPLY_END does nothing. -/
def Obligations.ResetPartAnswersThenResets : Prop :=
  (∀ (s : State) (source : Addr) (seq : Byte), s.takesRequests → source ≠ 63 →
    exec (.resetPart source seq []) s = .next (s.answered ⟨source, seq, 0x0D, []⟩ .done [])) ∧
  ∀ s : State, s.links.refusalDeferred = false →
    let reset := State.fullReset s.pending s.pins.straps s.links.mask .resetRequest
    (∀ b : List Byte, s.links.c.tx = some ⟨.report true, b⟩ →
      exec .resetPartReplyEnd s = .next reset ∧ exec .portCFrameEnd s = .next reset ∧
      (s.pins.held = none → s.links.c.link = .up →
        exec (.lossOfSignal .c) s = .next reset ∧ exec (.linkControlReceived .c [0x01]) s = .next reset ∧
        (7 ≤ s.links.c.badRun → exec (.badCheckFrame .c) s = .next reset))) ∧
    ((∀ f : TxFrame, s.links.c.tx = some f → f.sort ≠ .report true) → exec .resetPartReplyEnd s = .next s)

/-! ## Sources, windows and evaluations -/

/-- AMPLITUDE (R80, R83): for an order of at least 1 below half the window's length, the value is the integer part of 2/N
times the magnitude of the complex sum over n of x[n] e^(-j2πhn/N), computed with real numbers (log 22). -/
def Obligations.AmplitudeIsExact : Prop :=
  ∀ (h : Nat) (xs : List Int), 1 ≤ h → 2 * h < xs.length → xs.length ≤ 192 → (∀ x ∈ xs, -32767 ≤ x ∧ x ≤ 32767) →
    let n : ℝ := xs.length
    let component : ℂ := ∑ i ∈ Finset.range xs.length,
      ((xs.getD i 0 : ℤ) : ℂ) * Complex.exp (-(2 * Real.pi * h * i / n : ℝ) * Complex.I)
    let exact : ℝ := 2 / n * ‖component‖
    (amplitudeOf h xs : ℝ) ≤ exact ∧ exact < amplitudeOf h xs + 1

/-- A sample payload is well formed exactly as R22 says, and a SAMPLE of a node whose payload is not leaves the Source
Table as it is. -/
def Obligations.SamplePayloadForm : Prop :=
  (∀ p : List Byte, sampleWellFormed p = true ↔
    4 ≤ p.length ∧ 1 ≤ (byteAt p 2).toNat ∧ (byteAt p 2).toNat ≤ 4 ∧ 1 ≤ (byteAt p 3).toNat ∧ (byteAt p 3).toNat ≤ 8 ∧
      p.length = 4 + 2 * (byteAt p 2).toNat * (byteAt p 3).toNat) ∧
  ∀ (s : State) (frame : List Byte), goodCheck frame = true → malformedHeader frame = false →
    kindByte frame = kindSample → sampleWellFormed (payload frame) = false →
    ∃ t : State, exec (.portSFrameReceived frame) s = .next t ∧ t.sources = s.sources

/-- The stale timeout of a node with no commit pending and no reset coming (R38, R41, R67): a TRACKING entry becomes
STALE, its timer stopped and its expected sequence kept, and SOURCE_LOST is raised. Groups in another state than SEEKING
or TRACKING, or whose reference another node carries, keep their states. Each other group enters BLIND with GROUP_BLIND
raised: its crossing arm is cleared, its OPEN window is discarded, and its SETTLING window settles, into the Evaluation
Queue while that has room. Any other entry changes nothing. -/
def Obligations.StaleTimeoutLosesTheNode : Prop :=
  ∀ (s : State) (n : Node), s.pins.held = none →
    (s.sources[n].state ≠ .tracking → exec (.staleTimeout n) s = .next s) ∧
    (s.sources[n].state = .tracking → s.calm →
      ∃ t : State, exec (.staleTimeout n) s = .next t ∧
        t.sources[n] = { s.sources[n] with state := .stale, timer := none } ∧
        (∀ m : Node, m ≠ n → t.sources[m] = s.sources[m]) ∧
        KindSet.has t.disp.pending .sourceLost = true ∧
        (∀ g : Group, s.mgmt.active.refNode g ≠ some n ∨ ((s.group g).state ≠ .seeking ∧ (s.group g).state ≠ .tracking) →
          (t.group g).state = (s.group g).state) ∧
        (∀ g : Group, s.mgmt.active.refNode g = some n → (s.group g).state = .seeking ∨ (s.group g).state = .tracking →
          (t.group g).state = .blind ∧ (t.group g).arm = false ∧ KindSet.has t.disp.pending .groupBlind = true ∧
          (s.WindowsOk → ∀ d : Desc,
            ((s.group g).descs[d].state = .opened → (t.group g).descs[d].state = .free) ∧
            ((s.group g).descs[d].state = .settling →
              ((t.group g).descs[d].state = .queued ∨ (t.group g).descs[d].state = .evaluating ∨
                (t.group g).descs[d].state = .free ∧ KindSet.has t.disp.pending .evaluationOverrun = true) ∧
              (s.ana.queue.length ≤ 8 → (t.group g).descs[d].state ≠ .free)))) ∧
        t.links = s.links ∧ t.fwd = s.fwd ∧ t.chk = s.chk ∧ t.latches = s.latches ∧ t.snap = s.snap ∧ t.pins = s.pins)

/-- A reference sample (R55, R57, R58, R64). It is an accepted rising crossing when its value is 0 or above, the arm
is set and the last reference sample was below 0 one tick before. In BLIND the group enters SEEKING first, its store
keeping what lies in live windows. At or before the reference channel's frontier the sample is not examined and
changes nothing. In SEEKING without a crossing it can only arm. A group in SEEKING whose reference crosses opens its
next window at that tick and enters TRACKING: the lowest-numbered FREE descriptor takes the next window number, the
group's generation, the hold's flag and, channel by channel, how many of the next 256 ticks have their sample present;
with none FREE the group's oldest QUEUED window is withdrawn for it with EVALUATION_OVERRUN. -/
def Obligations.CrossingOpensWindow : Prop :=
  ∀ (s : State) (g : Group) (t : Tick) (v : Int),
    let x := s.group g
    let r := s.takeReference g t v
    let y := r.group g
    let examined := x.passes (s.plan g).refChan t = true
    (x.crossing t v = true ↔ 0 ≤ v ∧ x.arm = true ∧ ∃ w : Int, x.lastRef = some (t - 1, w) ∧ w < 0) ∧
    (∀ c : Chan, x.passes c t = true ↔ ∀ f : Tick, x.frontiers[c] = some f → t ≠ f ∧ (t - f).toNat < 32768) ∧
    (x.state = .blind → r = (s.setGroup g { x with
      state := .seeking, arm := false, lastRef := none, frontiers := Vector.replicate 8 none, rejects := 0
      store := x.store.map (fun cells => cells.filter (fun z => decide (∃ d : Desc, x.descs[d].state ≠ .free ∧
        (z.1 - x.descs[d].start).toNat < 32768 ∧
        ∀ e ∈ x.descs[d].stop, (e - z.1).toNat < 32768 ∧ e ≠ z.1))) }).takeReference g t v) ∧
    (x.state ≠ .blind → ¬ examined → r = s) ∧
    (x.state = .seeking → examined → x.crossing t v = false →
      r = s.setGroup g { x with arm := x.arm || decide (v ≤ -((s.plan g).band : Int)), lastRef := some (t, v) }) ∧
    (x.state = .seeking → examined → x.crossing t v = true →
      let opens := fun (d : Desc) =>
        y.state = .tracking ∧ y.arm = false ∧ y.counter = x.counter + 1 ∧ y.lastRef = some (t, v) ∧
        y.descs[d].state = .opened ∧ y.descs[d].number = x.counter + 1 ∧ y.descs[d].start = t ∧
        y.descs[d].stop = none ∧ y.descs[d].len = none ∧ y.descs[d].tag = x.gen ∧
        y.descs[d].held = s.mgmt.hold.isSome ∧
        (∀ c : Chan, y.descs[d].received[c] = (y.store[c].filter (fun z => (z.1 - t).toNat < 256)).length) ∧
        (∀ e : Desc, e ≠ d → y.descs[e] = x.descs[e])
      (∀ d : Desc, x.descs[d].state = .free → (∀ k : Desc, k < d → x.descs[k].state ≠ .free) →
        opens d ∧ y.store = x.store ∧ r = s.setGroup g y) ∧
      ((∀ d : Desc, x.descs[d].state ≠ .free) →
        ∀ q : WinRef, s.ana.queue.find? (fun a => a.group == g) = some q →
          opens q.desc ∧ r.ana.queue = s.ana.queue.erase q ∧ KindSet.has r.disp.pending .evaluationOverrun = true ∧
          ∀ h : Group, h ≠ g → r.group h = s.group h))

/-- An examined reference sample at tick t in a TRACKING group (R57, R59, R60, R64, R68, R72, R105, R120, R201). A tick
at or after start + max + 1 rejects the OPEN window with WINDOW_REJECTED and opens the next; the third rejection in a row
opens none and enters BLIND. A crossing of a length outside min to max is ignored (above max: log 37); no crossing can
only arm. A crossing within the bounds closes the window, which becomes SETTLING and may settle, or under a hold is
discarded, and the next window opens at t in the lowest FREE descriptor; with none FREE the group's oldest QUEUED window
is withdrawn for it with EVALUATION_OVERRUN. A group yet to switch in a pending commit switches there: under an enabled
new plan the next window opens with the new tag, under a disabled one the group enters OFF. -/
def Obligations.CrossingClosesWindow : Prop :=
  ∀ (s : State) (g : Group) (d : Desc) (t : Tick) (v : Int), (s.group g).state = .tracking →
    (s.group g).descIn .opened = some d → s.WindowsOk → (s.group g).passes (s.plan g).refChan t = true →
    let x := s.group g
    let w := x.descs[d]
    let p := s.plan g
    let r := s.takeReference g t v
    let y := r.group g
    let n := (t - w.start).toNat
    let beyond := (t - (w.start + BitVec.ofNat 16 (p.maxLen + 1))).toNat < 32768
    let closes := ¬ beyond ∧ x.crossing t v = true ∧ p.minLen ≤ n ∧ n ≤ p.maxLen
    let stays := ∀ c : Commit, s.mgmt.commit = some c → GroupSet.has c.switched g = true
    let free := fun (k : Desc) => x.descs[k].state = .free
    let lowest := fun (among : Desc → Prop) (f : Desc) => among f ∧ ∀ k : Desc, k < f → ¬ among k
    let opens := fun (f : Desc) (gen : Gen) =>
      y.state = .tracking ∧ y.arm = false ∧ y.lastRef = some (t, v) ∧ y.counter = x.counter + 1 ∧
      y.descs[f].state = .opened ∧ y.descs[f].number = x.counter + 1 ∧ y.descs[f].start = t ∧
      y.descs[f].stop = none ∧ y.descs[f].len = none ∧ y.descs[f].tag = gen ∧ y.descs[f].held = s.mgmt.hold.isSome
    let underWay := fun (k : Desc) =>
      y.descs[k].state = .settling ∨ y.descs[k].state = .queued ∨ y.descs[k].state = .evaluating
    let closed := y.descs[d].stop = some t ∧ y.descs[d].len = some n ∧ y.descs[d].number = w.number ∧
      y.descs[d].tag = w.tag ∧ underWay d
    let noneOpen := ∀ k : Desc, y.descs[k].state ≠ .opened ∧ y.descs[k].state ≠ .settling
    -- no boundary
    (¬ beyond → x.crossing t v = true → n < p.minLen ∨ p.maxLen < n →
      r = s.setGroup g { x with lastRef := some (t, v) }) ∧
    (¬ beyond → x.crossing t v = false →
      r = s.setGroup g { x with arm := x.arm || decide (v ≤ -(p.band : Int)), lastRef := some (t, v) }) ∧
    -- rejection
    (beyond → stays → x.rejects < 2 → ∀ f : Desc, lowest (fun k => k = d ∨ free k) f →
      opens f x.gen ∧ y.rejects = x.rejects + 1 ∧ (∀ k : Desc, k ≠ d → k ≠ f → y.descs[k] = x.descs[k]) ∧
      (d ≠ f → y.descs[d].state = .free) ∧ r.ana.queue = s.ana.queue ∧ r.rep = s.rep ∧
      r.disp = s.disp.raiseDetail .windowRejected (.windowRejected g w.number)) ∧
    (beyond → stays → 2 ≤ x.rejects →
      y.state = .blind ∧ y.arm = false ∧ y.lastRef = some (t, v) ∧ y.counter = x.counter ∧ y.rejects = x.rejects + 1 ∧
      noneOpen ∧ KindSet.has r.disp.pending .windowRejected = true ∧ KindSet.has r.disp.pending .groupBlind = true) ∧
    -- close
    (closes → stays → s.mgmt.hold = none → s.ana.queue.length < 15 → ∀ e : Desc, lowest free e →
      opens e x.gen ∧ closed ∧ y.rejects = 0 ∧ r.disp = s.disp ∧
      (∀ c : Chan, y.descs[d].received[c] = (x.store[c].filter (fun z => (z.1 - w.start).toNat < n)).length) ∧
      (∀ k : Desc, x.descs[k].state = .settling → y.descs[k].state = .queued ∨ y.descs[k].state = .evaluating)) ∧
    (closes → stays → s.mgmt.hold ≠ none → s.ana.queue.length < 16 → ∀ f : Desc, lowest (fun k => k = d ∨ free k) f →
      opens f x.gen ∧ y.rejects = x.rejects ∧ (d ≠ f → y.descs[d].state = .free) ∧ r.disp = s.disp ∧ r.rep = s.rep ∧
      (x.descIn .settling = none → r.ana.queue = s.ana.queue ∧ r.ana.engine = s.ana.engine)) ∧
    (closes → stays → s.mgmt.hold = none → x.descIn .free = none → x.descIn .settling = none →
      ∀ q : WinRef, s.ana.queue.find? (fun a => a.group == g) = some q →
      opens q.desc x.gen ∧ closed ∧ y.rejects = 0 ∧ q ∉ r.ana.queue ∧
      KindSet.has r.disp.pending .evaluationOverrun = true) ∧
    -- the switch a boundary or an entry into BLIND carries
    (∀ c : Commit, s.mgmt.commit = some c → GroupSet.has c.switched g = false →
      let plan := s.mgmt.staging.plans[g]
      let switches := y.gen = c.stagingGen ∧ y.rejects = 0 ∧ r.vector g = 0 ∧ r.latch g = none ∧
        r.ana.lastVerdicts[g] = none ∧ r.CaptureEnded s (fun h => h = g) ∧
        r.mgmt = { s.mgmt with commit := some { c with switched := c.switched ||| (1#8 <<< g.val) } }
      (beyond → x.rejects < 2 → switches ∧
        (plan.enabled = true → ∀ f : Desc, lowest (fun k => k = d ∨ free k) f → opens f c.stagingGen) ∧
        (plan.enabled = false → y.state = .off ∧ noneOpen)) ∧
      (beyond → 2 ≤ x.rejects → switches ∧ y.state = (if plan.enabled then .seeking else .off) ∧ noneOpen ∧
        KindSet.has r.disp.pending .groupBlind = true) ∧
      (closes → s.mgmt.hold = none → s.ana.queue.length < 15 → switches ∧
        (plan.enabled = true → ∀ e : Desc, lowest free e → opens e c.stagingGen ∧ closed) ∧
        (plan.enabled = false → y.state = .off ∧ noneOpen ∧ closed)))

/-- A sample taken (R56, R61 to R63, R66, R77, R78). In OFF and QUIESCED it is discarded. Otherwise a sample of the
reference channel is first examined in SEEKING, TRACKING and BLIND; the sample is then placed, its channel's frontier
advances to it when it is later or the frontier was absent, and the SETTLING window settles when every channel of it
has passed its end or the reference has passed it by the settle allowance. A settling window joins the Evaluation
Queue, goes into evaluation at once with the engine idle and the queue empty, or finds the queue full and is freed
with EVALUATION_OVERRUN. Its place (R61): the sample is late in a QUEUED or EVALUATING window or before the oldest
live window, and ahead more than 255 ticks after the start of an OPEN window or more than 639 after that of the oldest
live one (a distance of 32,768: log 21); the oldest live window is the one the most windows were opened since (log
15). A late or an ahead sample is counted, held at 65,535, and discarded. Any other is present afterwards with its
value, the samples of other channels unchanged; where the tick had no sample the received count of the SETTLING window
that contains the tick increases by 1, or else that of the OPEN window which the tick is at or after, and no other
descriptor field changes. -/
def Obligations.SamplePlacedOrCounted : Prop :=
  (∀ (s : State) (g : Group) (c : Chan) (t : Tick) (v : Int),
    let st := (s.group g).state
    let does := s.takeSample g c t v
    (st = .off ∨ st = .quiesced → does = s) ∧
    (st ≠ .off → st ≠ .quiesced →
      let r := if c = (s.plan g).refChan ∧ (st = .seeking ∨ st = .tracking ∨ st = .blind) then s.takeReference g t v else s
      let y := (r.group g).place c t v
      let z := { y with frontiers :=
        match y.frontiers[c] with
        | some f => if t ≠ f ∧ (t - f).toNat < 32768 then y.frontiers.set c (some t) else y.frontiers
        | none => y.frontiers.set c (some t) }
      let placed := r.setGroup g z
      let passed := fun (b : Chan) (u : Tick) => ∃ f : Tick, z.frontiers[b] = some f ∧ (f - u).toNat < 32768
      let settles := fun (d : Desc) =>
        let bank := placed.bankOf z.descs[d].tag
        let stop := z.descs[d].stop.getD 0
        (∀ b : Chan, (bank.entryOf g b).isSome → passed b (stop - 1)) ∨
          passed (placed.plan g).refChan (stop + BitVec.ofNat 16 bank.plans[g].allowance)
      ((∀ d : Desc, z.descs[d].state = .settling → ¬ settles d) → does = placed) ∧
      (∀ d : Desc, z.descs[d].state = .settling → (∀ k : Desc, k < d → z.descs[k].state ≠ .settling) → settles d →
        does = placed.settle ⟨g, d⟩))) ∧
  (∀ (s : State) (w : WinRef),
    let x := s.group w.group
    let d := x.descs[w.desc]
    let marked := fun (st : DescState) => s.setGroup w.group { x with descs := x.descs.set w.desc { d with state := st } }
    let bank := s.bankOf d.tag
    let n := d.len.getD 0
    let channels := (all8.filter (fun c => (bank.entryOf w.group c).isSome)).length
    let orders := (bank.plans[w.group].orders.filter (fun h => 2 * h < n)).length
    let cleared := { x with descs := x.descs.set w.desc ⟨.free, 0, 0, none, none, 0, Vector.replicate 8 0, false⟩ }
    (s.ana.queue.length < 16 → s.ana.engine ≠ none →
      s.settle w = { marked .queued with ana := { (marked .queued).ana with queue := s.ana.queue ++ [w] } }) ∧
    (s.ana.queue = [] → s.ana.engine = none →
      s.settle w = { marked .evaluating with
        ana := { (marked .evaluating).ana with engine := some ⟨w, 20 * (20 + channels * orders) + channels * n, 0⟩ } }) ∧
    (16 ≤ s.ana.queue.length →
      s.settle w = { s.setGroup w.group { cleared with
          store := match cleared.oldestLive with
            | some o => x.store.map (fun cells => cells.filter (fun z =>
                ¬ ((x.descs[o].start - z.1).toNat < 32768 ∧ x.descs[o].start ≠ z.1)))
            | none => x.store } with
        disp := s.disp.raise .evaluationOverrun })) ∧
  ∀ (x : GroupCtx) (c : Chan) (t : Tick) (v : Int),
    let since := fun (u : Tick) => (t - u).toNat < 32768
    let earlier := fun (u : Tick) => (u - t).toNat < 32768 ∧ u ≠ t
    let inside := fun (d : Desc) => since x.descs[d].start ∧ ∀ e : Tick, x.descs[d].stop = some e → earlier e
    let age := fun (d : Desc) => (x.counter - x.descs[d].number).toNat
    let y := x.place c t v
    let countedIn := fun (d : Desc) =>
      let w := x.descs[d]
      y.descs = x.descs.set d { w with received := w.received.set c (w.received[c] + 1) }
    (x.oldestLive = none ↔ ∀ d : Desc, x.descs[d].state = .free) ∧
    (∀ o : Desc, x.oldestLive = some o →
      x.descs[o].state ≠ .free ∧ ∀ d : Desc, x.descs[d].state ≠ .free → age d ≤ age o) ∧
    (x.isLate t = true ↔
      (∃ d : Desc, (x.descs[d].state = .queued ∨ x.descs[d].state = .evaluating) ∧ inside d) ∨
        ∃ o : Desc, x.oldestLive = some o ∧ earlier x.descs[o].start) ∧
    (x.isAhead t = true ↔
      (∃ d : Desc, x.descs[d].state = .opened ∧ ¬ earlier x.descs[d].start ∧ 255 < (t - x.descs[d].start).toNat) ∨
        ∃ o : Desc, x.oldestLive = some o ∧ ¬ earlier x.descs[o].start ∧ 639 < (t - x.descs[o].start).toNat) ∧
    (x.isLate t = true ∨ x.isAhead t = true → y = { x with late := min 65535 (x.late + 1) }) ∧
    (x.isLate t = false → x.isAhead t = false →
      present? y.store[c] t = some v ∧ { y with store := x.store, descs := x.descs } = x ∧
      (∀ b : Chan, b ≠ c → y.store[b] = x.store[b]) ∧
      (∀ u : Tick, sameCell t u = false → present? y.store[c] u = present? x.store[c] u) ∧
      (present? x.store[c] t ≠ none → y.descs = x.descs) ∧
      (present? x.store[c] t = none → x.ok →
        (∀ d : Desc, x.descs[d].state = .settling → inside d → countedIn d) ∧
        ((∀ k : Desc, x.descs[k].state = .settling → ¬ inside k) →
          (∀ d : Desc, x.descs[d].state = .opened → since x.descs[d].start → countedIn d) ∧
          ((∀ d : Desc, x.descs[d].state = .opened → ¬ since x.descs[d].start) → y.descs = x.descs))))

/-- The measures of a window (R80 to R82, R84 to R86), rounded toward zero and saturated, and none where unavailable. A
channel is filled: a tick takes its sample, else the nearest earlier one, else the first; without a sample the channel has
no measure. MEAN is the sum over N, RMS is taken about the exact mean, PEAK_TO_PEAK is the largest less the smallest.
AMPLITUDE needs its order listed and below N/2 (its value: AmplitudeIsExact). RIPPLE_RATIO needs DC_VOLTAGE and a MEAN of
328 or more in magnitude; THD an AC current kind and AMPLITUDE(1) available and not 0; PHASE_IMBALANCE and BRIDGE_BALANCE
an AC current kind and the fundamentals of three or six phases, not all 0. The channel of a phase is one of its kind, a
free value choosing among several (log 23). -/
def Obligations.MeasuresOfWindow : Prop :=
  (∀ (cells : Cells) (start : Tick) (n : Nat),
    let cell := fun (i : Nat) => present? cells (start + BitVec.ofNat 16 i)
    (filled cells start n = none ↔ ∀ i : Nat, i < n → cell i = none) ∧
    ∀ xs : List Int, filled cells start n = some xs → xs.length = n ∧ ∀ i : Nat, i < n →
      (∀ v : Int, cell i = some v → xs[i]? = some v) ∧
      (∀ (j : Nat) (v : Int), j < i → cell j = some v → (∀ k : Nat, j < k → k ≤ i → cell k = none) → xs[i]? = some v) ∧
      (∀ (j : Nat) (v : Int), i < j → j < n → cell j = some v → (∀ k : Nat, k < j → cell k = none) → xs[i]? = some v)) ∧
  (∀ xs : List Int, xs ≠ [] → xs.length ≤ 192 → (∀ x ∈ xs, -32767 ≤ x ∧ x ≤ 32767) →
    let n : Int := xs.length
    let v := n * (xs.map (fun x => x * x)).sum - xs.sum * xs.sum
    meanOf xs = Int.tdiv xs.sum n ∧
    (((rmsOf xs : Int) * n) ^ 2 ≤ v ∧ v < (((rmsOf xs : Int) + 1) * n) ^ 2) ∧
    ∃ a ∈ xs, ∃ b ∈ xs, (∀ x ∈ xs, b ≤ x ∧ x ≤ a) ∧ (peakToPeakOf xs : Int) = a - b) ∧
  ∀ (w : WindowView) (c : Chan) (order : Nat),
    let orders := w.bank.plans[w.group].orders
    let kind := fun (d : Chan) => (w.bank.entryOf w.group d).map MapEntry.kind
    let samples := fun (d : Chan) => filled w.store[d] w.start w.len
    let measure := fun (m : Metric) => w.measure ⟨c, m, order⟩
    let value := fun (v : Nat) => some ((min 65535 v : Nat) : Int)
    let onA := fun (k : ChanKind) => k = .acA1 ∨ k = .acA2 ∨ k = .acA3
    let onB := fun (k : ChanKind) => k = .acB1 ∨ k = .acB2 ∨ k = .acB3
    let fundamental := fun (k : ChanKind) => (w.phase k).bind (fun d => (samples d).map (amplitudeOf 1))
    (∀ k : ChanKind, (w.phase k = none ↔ ∀ d : Chan, kind d ≠ some k) ∧ ∀ d : Chan, w.phase k = some d → kind d = some k) ∧
    (kind c = none ∨ samples c = none → ∀ m : Metric, measure m = none) ∧
    ∀ (k : ChanKind) (xs : List Int), kind c = some k → samples c = some xs →
      measure .mean = some (meanOf xs) ∧ measure .rms = value (rmsOf xs) ∧ measure .peakToPeak = value (peakToPeakOf xs) ∧
      (order ∈ orders → 2 * order < w.len → measure .amplitude = value (amplitudeOf order xs)) ∧
      (order ∉ orders ∨ w.len ≤ 2 * order → measure .amplitude = none) ∧
      (k = .dcVoltage → 328 ≤ (meanOf xs).natAbs →
        measure .rippleRatio = value (1000 * peakToPeakOf xs / (meanOf xs).natAbs)) ∧
      (k ≠ .dcVoltage ∨ (meanOf xs).natAbs < 328 → measure .rippleRatio = none) ∧
      (onA k ∨ onB k → 1 ∈ orders → 2 < w.len → amplitudeOf 1 xs ≠ 0 → orders.length ≤ 16 →
        let x := 1000000 * ((orders.filter (fun h => 2 ≤ h ∧ 2 * h < w.len)).map (fun h => amplitudeOf h xs ^ 2)).sum
        ∃ q : Nat, measure .thd = value q ∧ (q * amplitudeOf 1 xs) ^ 2 ≤ x ∧ x < ((q + 1) * amplitudeOf 1 xs) ^ 2) ∧
      (¬ (onA k ∨ onB k) ∨ 1 ∉ orders ∨ w.len ≤ 2 ∨ amplitudeOf 1 xs = 0 → measure .thd = none) ∧
      (∀ k1 k2 k3 : ChanKind,
        (onA k ∧ k1 = .acA1 ∧ k2 = .acA2 ∧ k3 = .acA3) ∨ (onB k ∧ k1 = .acB1 ∧ k2 = .acB2 ∧ k3 = .acB3) →
        (fundamental k1 = none ∨ fundamental k2 = none ∨ fundamental k3 = none → measure .phaseImbalance = none) ∧
        ∀ a b d : Nat, fundamental k1 = some a → fundamental k2 = some b → fundamental k3 = some d →
          let total := a + b + d
          let away := fun (y : Nat) => (3 * (y : Int) - total).natAbs
          (total = 0 → measure .phaseImbalance = none) ∧
          (total ≠ 0 → measure .phaseImbalance = value (1000 * max (away a) (max (away b) (away d)) / total))) ∧
      (¬ (onA k ∨ onB k) → measure .phaseImbalance = none ∧ measure .bridgeBalance = none) ∧
      (onA k ∨ onB k →
        ((∃ p ∈ [ChanKind.acA1, .acA2, .acA3, .acB1, .acB2, .acB3], fundamental p = none) → measure .bridgeBalance = none) ∧
        ∀ a1 a2 a3 b1 b2 b3 : Nat, fundamental .acA1 = some a1 → fundamental .acA2 = some a2 →
          fundamental .acA3 = some a3 → fundamental .acB1 = some b1 → fundamental .acB2 = some b2 →
          fundamental .acB3 = some b3 →
          let sa := a1 + a2 + a3
          let sb := b1 + b2 + b3
          (sa + sb = 0 → measure .bridgeBalance = none) ∧
          (sa + sb ≠ 0 → measure .bridgeBalance = value (2000 * ((sa : Int) - sb).natAbs / (sa + sb))))

/-- The outcome of a window (R88) is the first of STALE_PLAN, its tag not its group's generation; INCOMPLETE, some
channel of it missing more ticks than the gap tolerance; IDLE, the conduction channel's MEAN unavailable or below the
threshold; and CHECKED. The end of the evaluation of a window that is not CHECKED, with nothing else under way (R88 to
R91, R100, R116, R153, R154, R198 to R200): limit states, vectors, latches and ALERT_N stand and no event of theirs is
raised; the verdict that the mode EVERY, or ON_CHANGE with a changed vector or code, calls for enters or is refused;
an armed capture whose trigger the window number meets is taken; the descriptor becomes FREE and the engine takes the
head of the queue. An idle engine ends nothing (log 3). -/
def Obligations.UncheckedWindowEnds : Prop :=
  (∀ s : State, s.ana.engine = none → exec .evaluationEnd s = .next s) ∧
  (∀ (s : State) (w : WinRef),
    let d := (s.group w.group).descs[w.desc]
    let gen := (s.group w.group).gen
    let bank := if s.mgmt.commit.map Commit.stagingGen = some d.tag then s.mgmt.staging else s.mgmt.active
    let plan := bank.plans[w.group]
    let gap := ∃ m ∈ bank.channelMap.toList, m.valid = true ∧ m.group = w.group ∧
      plan.tolerance + d.received[m.chan] < d.len.getD 0
    let threshold : Int := match plan.level with
      | .l1 => 655
      | .l2 => 1638
      | .l3 => 3276
      | .l4 => 6553
    let mean := (s.viewOf w).measure ⟨plan.condChan, .mean, 0⟩
    let outcome := (s.viewOf w).outcome d gen
    (d.tag ≠ gen → outcome = .stalePlan) ∧
    (d.tag = gen → gap → outcome = .incomplete) ∧
    (d.tag = gen → ¬ gap → (∀ m : Int, mean = some m → m < threshold) → outcome = .idle) ∧
    (d.tag = gen → ¬ gap → ∀ m : Int, mean = some m → threshold ≤ m → outcome = .checked)) ∧
  ∀ (s : State) (e : Evaluation), s.pins.held = none → s.ana.engine = some e → s.calm → s.mgmt.hold = none →
    let w := e.win
    let d := (s.group w.group).descs[w.desc]
    let outcome := (s.viewOf w).outcome d (s.group w.group).gen
    outcome ≠ .checked → (s.group w.group).state ≠ .quiescing → w ∉ s.ana.queue →
    ∃ t : State, exec .evaluationEnd s = .next t ∧
      t.chk = s.chk ∧ t.latches = s.latches ∧ t.pins = s.pins ∧
      t.sources = s.sources ∧ t.links = s.links ∧ t.fwd = s.fwd ∧ t.mgmt = s.mgmt ∧
      t.VerdictGiven s w outcome s.disp ∧ t.SnapshotTold s w outcome False False ∧ t.EngineReleased s w

/-- The end of the evaluation of a CHECKED window, with nothing else under way (R89 to R91, R97, R98, R101, R114, R115,
R117, R118, R153, R198 to R200): every valid entry of the group whose measure is available steps by the class of its
value, and the vector follows; each raise and withdrawal raises its event with its detail, in ascending index, and behind
them the latch, which follows the first signature that matches the vector, raises its own. The verdict and the Snapshot
Unit then have the new vector and latch, and whether step 1 raised a limit and step 2 set the latch; the descriptor
becomes FREE and the engine takes the head of the queue. -/
def Obligations.CheckedWindowStepsLimitsAndLatch : Prop :=
  ∀ (s : State) (e : Evaluation), s.pins.held = none → s.ana.engine = some e → s.calm → s.mgmt.hold = none →
    let w := e.win
    let g := w.group
    let d := (s.group g).descs[w.desc]
    let v := s.viewOf w
    let limits := s.mgmt.active.limits
    v.outcome d (s.group g).gen = .checked → (s.group g).state ≠ .quiescing →
    s.alertOk →
    ∃ t : State, exec .evaluationEnd s = .next t ∧
      (∀ i : Fin 96, t.chk.active[i] =
        match v.measure limits[i].ref with
        | some x =>
          if limits[i].valid = true ∧ limits[i].group = g then limits[i].move s.chk.active[i] (limits[i].classify x)
          else s.chk.active[i]
        | none => s.chk.active[i]) ∧
      t.vector g = vectorOf g limits.toList t.chk.active.toList ∧
      (∀ h : Group, h ≠ g → t.vector h = s.vector h ∧ t.latch h = s.latch h) ∧
      (let moves : List (DetailKind × Detail) := (List.finRange 96).flatMap (fun i =>
        match v.measure limits[i].ref, moveEvent s.chk.active[i] t.chk.active[i] with
        | some x, some k =>
          if limits[i].valid = true ∧ limits[i].group = g then [(k, .limit g i.val d.number x)] else []
        | _, _ => [])
       let stepped := moves.foldl (fun (q : Dispatcher) m => q.raiseDetail m.1 m.2) s.disp
       let found := firstMatch g (t.vector g) 0 s.mgmt.active.signatures.toList
       let sets := fun (i : Nat) (f : Signature) => (some (⟨f.code, f.severity, i, d.number⟩ : Diagnosis),
         stepped.raiseDetail .diagnosisSet (.diagnosisSet g f.code f.severity i d.number))
       let latched : Option Diagnosis × Dispatcher := match found, s.latch g with
         | none, none => (none, stepped)
         | none, some old => (none, stepped.raiseDetail .diagnosisCleared (.diagnosisCleared g old.code d.number))
         | some (j, f), none => sets j f
         | some (j, f), some old => if old.index = j then (some old, stepped) else sets j f
       t.latch g = latched.1 ∧ t.VerdictGiven s w .checked latched.2 ∧
       t.SnapshotTold s w .checked (∃ m ∈ moves, m.1 = .limitRaised)
         (match found, s.latch g with
          | some (j, _), some old => old.index ≠ j
          | some _, none => True
          | none, _ => False)) ∧
      t.pins.alert = anyTrip t.latches ∧ t.chk.staging = s.chk.staging ∧ t.sources = s.sources ∧ t.links = s.links ∧
      t.fwd = s.fwd ∧ t.mgmt = s.mgmt ∧ (w ∉ s.ana.queue → t.EngineReleased s w)

/-! ## Limits and signatures -/

/-- The class of a value under an entry (R95; that a negative MEAN is OVER under a BELOW entry with limit 0 is log
38); the moves of a stepped entry (R96), and that they keep RISING below the raise count and FALLING below the clear
count. -/
def Obligations.LimitClassesAndMoves : Prop :=
  (∀ (e : LimitEntry) (v : Int),
    let low : Int := if e.limit < e.hysteresis then 0 else (e.limit : Int) - e.hysteresis
    let high : Int := if 65535 < e.limit + e.hysteresis then 65535 else (e.limit : Int) + e.hysteresis
    (e.direction = .above →
      (e.classify v = .over ↔ (e.limit : Int) < v) ∧
      (e.classify v = .under ↔ v ≤ low) ∧
      (e.classify v = .band ↔ ¬ (e.limit : Int) < v ∧ ¬ v ≤ low)) ∧
    (e.direction = .below → e.limit ≤ 65535 →
      (e.classify v = .over ↔ v < (e.limit : Int)) ∧
      (e.classify v = .under ↔ high ≤ v) ∧
      (e.classify v = .band ↔ ¬ v < (e.limit : Int) ∧ ¬ high ≤ v))) ∧
  ∀ (e : LimitEntry) (k : Nat),
    e.move .clear .over = (if e.raiseCount = 1 then .exceeded else .rising 1) ∧
    e.move .clear .band = .clear ∧ e.move .clear .under = .clear ∧
    e.move (.rising k) .over = (if k + 1 = e.raiseCount then .exceeded else .rising (k + 1)) ∧
    e.move (.rising k) .band = .clear ∧ e.move (.rising k) .under = .clear ∧
    e.move .exceeded .over = .exceeded ∧ e.move .exceeded .band = .exceeded ∧
    e.move .exceeded .under = (if e.clearCount = 1 then .clear else .falling 1) ∧
    e.move (.falling k) .over = .exceeded ∧ e.move (.falling k) .band = .falling k ∧
    e.move (.falling k) .under = (if k + 1 = e.clearCount then .clear else .falling (k + 1)) ∧
    (1 ≤ e.raiseCount → 1 ≤ e.clearCount → ∀ (st : LimitState) (c : LimitClass),
      (∀ j : Nat, st = .rising j → 1 ≤ j ∧ j < e.raiseCount) → (∀ j : Nat, st = .falling j → 1 ≤ j ∧ j < e.clearCount) →
      (∀ j : Nat, e.move st c = .rising j → 1 ≤ j ∧ j < e.raiseCount) ∧
      (∀ j : Nat, e.move st c = .falling j → 1 ≤ j ∧ j < e.clearCount))

/-- The match of a vector (R114): the lowest-indexed valid entry whose group set has the group and whose cared-for flags
all agree with its pattern; none exactly when there is no such entry. -/
def Obligations.FirstMatchIsLowest : Prop :=
  ∀ (g : Group) (vector : Half) (entries : Vector Signature 32),
    let fits := fun (i : Fin 32) =>
      entries[i].valid = true ∧ entries[i].groups.getLsbD g.val = true ∧
        ∀ j : Fin 16, entries[i].care.getLsbD j.val = true →
          vector.getLsbD j.val = entries[i].pattern.getLsbD j.val
    (firstMatch g vector 0 entries.toList = none ↔ ∀ i : Fin 32, ¬ fits i) ∧
    (∀ i : Fin 32, firstMatch g vector 0 entries.toList = some (i.val, entries[i]) ↔
      fits i ∧ ∀ j : Fin 32, j < i → ¬ fits j)

/-! ## Events (R126, R127, R136 to R140) -/

/-- Raising a kind (R126) and raising a detail kind (R127): the kind is pending afterwards and no other flag is lost;
the detail joins the tail of a stack of fewer than 4, and is dropped from a full one with DETAIL_OVERRUN. -/
def Obligations.RaisingPendsAndStacks : Prop :=
  ∀ (d : Dispatcher) (k : EventKind) (dk : DetailKind) (e : Detail),
    d.raise k = { d with pending := d.pending ||| k.flag } ∧
    ((d.stack dk).length < 4 →
      d.raiseDetail dk e = { d.setStack dk (d.stack dk ++ [e]) with pending := d.pending ||| dk.kind.flag }) ∧
    (4 ≤ (d.stack dk).length →
      d.raiseDetail dk e =
        { d with pending := d.pending ||| dk.kind.flag ||| EventKind.flag .detailOverrun })

/-- A kind is eligible when it is pending, except when it is unmasked, POLLED and has its status set (R136). -/
def Obligations.EligibilityFollowsTable : Prop :=
  ∀ (d : Dispatcher) (b : Bank) (k : EventKind),
    d.eligible b k = true ↔
      (KindSet.has d.pending k = true ∧
        ¬ (KindSet.has d.mask k = false ∧ b.sendMode k = .polled ∧ KindSet.has d.status k = true))

/-- A selection (R131, R135, R137 to R140, R142): with the slot empty and Port C UP the first eligible kind in cyclic
order after the last dispatched is dispatched; it is consumed, its raw status is set, and it fills the slot exactly when
it is unmasked and has a destination. Otherwise nothing happens. -/
def Obligations.SelectionDispatchesInRotation : Prop :=
  (∀ (last : EventKind) (i : Fin 16), ((rotation last).map EventKind.code)[i.val]? = some ((last.code + 1 + i.val) % 16)) ∧
  ∀ s : State, s.pins.held = none →
    let b := s.mgmt.active
    (s.disp.slot ≠ none ∨ s.links.c.link ≠ .up ∨ (∀ k : EventKind, s.disp.eligible b k = false) →
      exec .eventSelection s = .next s) ∧
    (∀ k : EventKind, s.disp.slot = none → s.links.c.link = .up →
      (rotation s.disp.last).find? (fun j => s.disp.eligible b j) = some k →
      let slotted := fun (d : Option Detail) (left : Nat) =>
        if KindSet.has s.disp.mask k = true then none
        else (b.eventDest k).map (fun a => (⟨k, d, left, a, b.sendMode k⟩ : SlotFrame))
      let marked := fun (x : Dispatcher) => { x with last := k, raw := s.disp.raw ||| k.flag }
      (k.detailKind = none → exec .eventSelection s = .next { s with
        disp := { marked s.disp with slot := slotted none 0, pending := s.disp.pending &&& ~~~k.flag } }) ∧
      (∀ (dk : DetailKind) (e : Detail) (rest : List Detail), k.detailKind = some dk → s.disp.stack dk = e :: rest →
        exec .eventSelection s = .next { s with
          disp := { marked (s.disp.setStack dk rest) with
            slot := slotted (some e) rest.length
            pending := if rest = [] then s.disp.pending &&& ~~~k.flag else s.disp.pending } }))

/-! ## Commit and hold timers (R73, R180, R183 to R185) -/

/-- The commit timeout (R73, R180): with a commit pending and its timer running, every group has the staging generation
afterwards, one forced also its vector, latch and last verdict cleared and an armed capture of it aborted (R105, R120,
R201); no SETTLING or QUEUED window carries the old tag, COMMIT_FORCED is raised, and the commit is either still pending,
its timer stopped and its forced count the number of groups that had not switched, or complete, the other blocks taking
the new settings and COMMIT_DONE offered (R177). With none pending or its timer stopped nothing happens. -/
def Obligations.CommitTimeoutForces : Prop :=
  ∀ s : State, s.pins.held = none →
    (s.mgmt.commit = none → exec .commitTimeout s = .next s) ∧
    (∀ c : Commit, s.mgmt.commit = some c → c.timer = none → exec .commitTimeout s = .next s) ∧
    (∀ c : Commit, s.mgmt.commit = some c → c.timer ≠ none → s.commitOk → s.links.markReset = none →
      s.mgmt.restartMark = false →
      let forced := (all8.filter (fun g => !GroupSet.has c.switched g)).length
      ∃ t : State, exec .commitTimeout s = .next t ∧
        KindSet.has t.disp.pending .commitForced = true ∧
        (∀ g : Group, (t.group g).gen = c.stagingGen) ∧
        (∀ g : Group, GroupSet.has c.switched g = false →
          t.vector g = 0 ∧ t.latch g = none ∧ t.ana.lastVerdicts[g] = none) ∧
        (∀ (g : Group) (d : Desc), (t.group g).descs[d].tag = s.mgmt.activeGen →
          (t.group g).descs[d].state ≠ .settling ∧ (t.group g).descs[d].state ≠ .queued) ∧
        t.CaptureEnded s (fun g => GroupSet.has c.switched g = false) ∧
        t.mgmt.staging = s.mgmt.staging ∧ t.mgmt.request = s.mgmt.request ∧
        (t.mgmt.commit = none → t.CompletedFrom s c.stagingGen forced) ∧
        (∀ u : Commit, t.mgmt.commit = some u → t.mgmt.active = s.mgmt.active ∧ t.mgmt.activeGen = s.mgmt.activeGen ∧
          u.stagingGen = c.stagingGen ∧ u.timer = none ∧ u.switched = 0xFF ∧ u.forced = forced ∧
          t.links = s.links ∧ t.sources = s.sources ∧ t.fwd = s.fwd))

/-! ## Records (R152 to R157) -/

/-- A marker offered (R152, R156): it enters at the tail while fewer than 64 records are held; otherwise it waits at the
end of the waiting order, unless a marker of its kind waits, and for GROUP_QUIESCED of its group, which keeps its place
and takes the later parameters, a COMMIT_DONE the sum of the forced counts held at 255. -/
def Obligations.MarkerEntersWaitsOrMerges : Prop :=
  (∀ (q : ReportQueue) (dest : Addr) (m : Marker),
    (q.records.length < 64 → q.offerMarker dest m = { q with records := q.records ++ [⟨dest, .marker m⟩] }) ∧
    (64 ≤ q.records.length → (∀ w : Marker, .marker w ∈ q.waiting → w.sameKind m = false) →
      q.offerMarker dest m = { q with waiting := q.waiting ++ [.marker m] }) ∧
    (∀ (before after : List Waiting) (w : Marker), 64 ≤ q.records.length →
      q.waiting = before ++ .marker w :: after → (∀ x : Marker, .marker x ∈ before → x.sameKind m = false) →
      w.sameKind m = true →
      q.offerMarker dest m = { q with waiting := before ++ .marker (w.merge m) :: after })) ∧
  (∀ w m : Marker, w.sameKind m = true ↔
    match w, m with
    | .holdEffective, .holdEffective => True
    | .holdEnded _ _, .holdEnded _ _ => True
    | .commitDone _ _, .commitDone _ _ => True
    | .groupQuiesced g, .groupQuiesced h => g = h
    | .snapshot _, .snapshot _ => True
    | _, _ => False) ∧
  (∀ (cause cause' : HoldCause) (never never' : Bool),
    Marker.merge (.holdEnded cause never) (.holdEnded cause' never') = .holdEnded cause' never') ∧
  (∀ (gen gen' : Gen) (n k : Nat),
    Marker.merge (.commitDone gen n) (.commitDone gen' k) = .commitDone gen' (min 255 (n + k))) ∧
  (∀ g : Group, Marker.merge (.groupQuiesced g) (.groupQuiesced g) = .groupQuiesced g) ∧
  (∀ ready ready' : Bool, Marker.merge (.snapshot ready) (.snapshot ready') = .snapshot ready') ∧
  Marker.merge .holdEffective .holdEffective = .holdEffective

/-! ## Requests -/

/-- A request that finds another in progress (R155, R167): it is answered BUSY without data while fewer than 64 records
are held, the answer is discarded otherwise, and it changes no other state. -/
def Obligations.BusyRequestChangesNothing : Prop :=
  ∀ (i : Instr) (r q : Request) (s : State), requestOf i = some r → s.hearsOnC → s.mgmt.request = some q →
    r.source ≠ 63 → r.params.length ≤ 238 →
    exec i s = .next { s with
      links := s.links.heardOnC
      rep := if s.rep.records.length < 64 then
          { s.rep with records := s.rep.records ++ [⟨r.source, .reply ⟨r.seq, r.code, .busy, []⟩⟩] }
        else s.rep }

/-- Requests that are malformed: one malformed in its envelope (R24, R168), its code unlisted, its length not that of its
code, the count 0 or the table not 1 to 7 in WRITE_STAGING, or the channel count not 1 to 4 in ARM_SNAPSHOT, is answered
BAD_REQUEST without data and changes no other state; one from address 63 (R24) is discarded with MALFORMED_FRAME; one too
long for a frame (R19, R168) has a malformed header, is offered to Port S and raises MALFORMED_FRAME. -/
def Obligations.MalformedRequests : Prop :=
  (∀ (code : Byte) (params : List Byte), envelopeOk code params = true ↔
    (code = 0x01 ∧ 3 ≤ params.length ∧ byteAt params 2 ≠ 0 ∧
      ∃ table ∈ ([(1, 10), (2, 53), (3, 13), (4, 8), (5, 2), (6, 2), (7, 10)] : List (Nat × Nat)),
        (byteAt params 0).toNat = table.1 ∧ params.length = 3 + (byteAt params 2).toNat * table.2) ∨
    (code = 0x02 ∧ params.length = 4) ∨
    (code ∈ [(0x03 : Byte), 0x04, 0x06, 0x09, 0x0B, 0x0D, 0x14, 0x1A] ∧ params.length = 0) ∨
    (code ∈ [(0x05 : Byte), 0x10, 0x11, 0x12, 0x13, 0x19] ∧ params.length = 2) ∨
    (code ∈ [(0x07 : Byte), 0x08, 0x0A, 0x0C] ∧ params.length = 1) ∨
    (code = 0x18 ∧ 1 ≤ (byteAt params 2).toNat ∧ (byteAt params 2).toNat ≤ 4 ∧
      params.length = 3 + (byteAt params 2).toNat)) ∧
  ∀ (i : Instr) (r : Request) (s : State), requestOf i = some r → s.hearsOnC →
    (s.mgmt.request = none → r.source ≠ 63 → r.params.length ≤ 238 → envelopeOk r.code r.params = false →
      exec i s = .next (s.answered r .badRequest [])) ∧
    (r.source = 63 → r.params.length ≤ 238 →
      exec i s = .next { s with
        links := s.links.heardOnC
        disp := { s.disp with pending := s.disp.pending ||| EventKind.flag .malformedFrame } }) ∧
    (238 < r.params.length →
      ∃ t : State, exec i s = .next t ∧ { t with links := s.links, fwd := s.fwd, disp := s.disp } = s ∧
        t.links = s.links.heardOnC ∧ KindSet.has t.disp.pending .malformedFrame = true ∧
        t.fwd = { s.fwd with
          cToS := if s.settings.portSEnable = true ∧ s.fwd.cToS.length < 4 then s.fwd.cToS ++ [s.requestFrame r]
            else s.fwd.cToS })

/-- ACK_EVENTS (R144): the status of every kind in its kind set is cleared, all else unchanged, and the reply is DONE
with no data. -/
def Obligations.AckEventsClearsStatus : Prop :=
  ∀ (s : State) (source : Addr) (seq hi lo : Byte), s.takesRequests → source ≠ 63 →
    exec (.ackEvents source seq [hi, lo]) s = .next { s.answered ⟨source, seq, 0x10, [hi, lo]⟩ .done [] with
      disp := { s.disp with status := s.disp.status &&& ~~~(hi ++ lo) } }

/-- CLEAR_RAW, SET_MASK and CLEAR_MASK (R145 to R147): the named flags of raw status or of the mask change, all other
dispatcher state is unchanged, and the reply is DONE with no data. -/
def Obligations.EventRequestsChangeOneSet : Prop :=
  ∀ (s : State) (source : Addr) (seq hi lo : Byte), s.takesRequests → source ≠ 63 →
    exec (.clearRaw source seq [hi, lo]) s = .next { s.answered ⟨source, seq, 0x11, [hi, lo]⟩ .done [] with
      disp := { s.disp with raw := s.disp.raw &&& ~~~(hi ++ lo) } } ∧
    exec (.setMask source seq [hi, lo]) s = .next { s.answered ⟨source, seq, 0x12, [hi, lo]⟩ .done [] with
      disp := { s.disp with mask := s.disp.mask ||| (hi ++ lo) } } ∧
    exec (.clearMask source seq [hi, lo]) s = .next { s.answered ⟨source, seq, 0x13, [hi, lo]⟩ .done [] with
      disp := { s.disp with mask := s.disp.mask &&& ~~~(hi ++ lo) } }

/-- READ_STATUS, READ_SOURCES, READ_EVENTS, READ_GROUP and READ_TABLE (R42, R103, R123, R148, R173, R188 to R190): DONE
with the data read, or BAD_REQUEST for a group, bank, table, index or count out of range; reading changes nothing. -/
def Obligations.ReadRequestsAnswerAndKeep : Prop :=
  ∀ (s : State) (source : Addr) (seq a b c d : Byte), s.takesRequests → source ≠ 63 →
    exec (.readStatus source seq []) s = .next (s.answered ⟨source, seq, 0x09, []⟩ .done
      ([s.links.s.link.code, 4] ++ beNat s.links.s.badCount ++ beNat s.links.c.badCount
        ++ [s.links.cause.code, flagByte s.links.mask.isSome, s.partAddr.setWidth 8]
        ++ (match s.mgmt.commit with
          | none => 0 :: be16 s.mgmt.activeGen ++ [0, 0, 0, 0, 0]
          | some c => 1 :: be16 s.mgmt.activeGen ++ be16 c.stagingGen ++ [c.switched]
              ++ beNat (match c.timer with
                | some k => (c.timeoutMs * 20000 - k) / 20000
                | none => 0))
        ++ (match s.mgmt.hold with
          | none => [0, 0, 0]
          | some h => (if h.effective then 2 else 1) :: beNat ((h.limitMs * 20000 - h.elapsed) / 20000))
        ++ s.ana.groups.toList.map (fun x => x.state.code)
        ++ [alertSet s.latches, byte s.ana.queue.length, flagByte s.ana.engine.isSome]
        ++ ([byte s.rep.records.length, byte s.rep.verdicts] ++ beNat s.rep.dropCount ++ [byte s.rep.waiting.length])
        ++ ([match s.snap.state with
          | .empty => 0
          | .armed _ => 1
          | .ready _ _ => 2] : List Byte))) ∧
    exec (.readSources source seq []) s = .next (s.answered ⟨source, seq, 0x0B, []⟩ .done
      (s.sources.toList.flatMap (fun e =>
        [e.state.code, e.expected.getD 0] ++ beNat e.missed ++ beNat e.duplicates ++ beNat e.outOfOrder))) ∧
    exec (.readEvents source seq []) s = .next (s.answered ⟨source, seq, 0x14, []⟩ .done
      (be16 s.disp.pending ++ be16 s.disp.mask ++ be16 s.disp.raw ++ be16 s.disp.status
        ++ [byte s.disp.fifos.limitRaised.length, byte s.disp.fifos.limitCleared.length,
          byte s.disp.fifos.diagnosisSet.length, byte s.disp.fifos.diagnosisCleared.length,
          byte s.disp.fifos.sourceGap.length, byte s.disp.fifos.windowRejected.length,
          (match s.disp.slot with
            | some f => byte f.kind.code
            | none => 255),
          byte s.disp.last.code])) ∧
    (∀ g : Group, a = byte g.val →
      exec (.readGroup source seq [a]) s = .next (s.answered ⟨source, seq, 0x0A, [a]⟩ .done
        ([byte g.val, (s.group g).state.code] ++ be16 (s.group g).gen ++ be16 (s.group g).counter
          ++ [byte (s.group g).rejects, flagByte (s.group g).arm] ++ beNat (s.group g).late
          ++ (s.group g).descs.toList.flatMap (fun w =>
            if w.state = .free then List.replicate 10 0
            else [w.state.code] ++ be16 w.number ++ be16 w.start ++ be16 (w.stop.getD 0) ++ be16 w.tag
              ++ [flagByte w.held])
          ++ (match s.latch g with
            | some x => [x.code, x.severity.code, byte x.index] ++ be16 x.window
            | none => [0, 0, 255, 0, 0])
          ++ (let states := s.limitStates g
              let entries := ((List.finRange 96).filter (fun i =>
                (s.groupBank g).limits[i].valid && (s.groupBank g).limits[i].group == g)).map (fun i =>
                  byte i.val :: (match states[i] with
                    | .clear => [0, 0]
                    | .rising k => [1, byte k]
                    | .exceeded => [2, 0]
                    | .falling k => [3, byte k]))
              be16 (s.vector g) ++ [byte entries.length] ++ (entries.take 62).flatten)))) ∧
    (7 < a.toNat → exec (.readGroup source seq [a]) s = .next (s.answered ⟨source, seq, 0x0A, [a]⟩ .badRequest [])) ∧
    (∀ (bank : Bank) (t : TableId), (a = 0 ∧ bank = s.mgmt.active) ∨ (a = 1 ∧ bank = s.mgmt.staging) → b = t.code →
      1 ≤ d.toNat → c.toNat + d.toNat ≤ t.size → d.toNat * t.entrySize ≤ 236 →
      exec (.readTable source seq [a, b, c, d]) s = .next (s.answered ⟨source, seq, 0x02, [a, b, c, d]⟩ .done
        (((bank.rows t).drop c.toNat).take d.toNat).flatten)) ∧
    (1 < a.toNat ∨ b = 0 ∨ 7 < b.toNat ∨ d = 0 ∨
      (∃ t : TableId, b = t.code ∧ (t.size < c.toNat + d.toNat ∨ 236 < d.toNat * t.entrySize)) →
      exec (.readTable source seq [a, b, c, d]) s =
        .next (s.answered ⟨source, seq, 0x02, [a, b, c, d]⟩ .badRequest []))

/-- WRITE_STAGING and COPY_ACTIVE (R171, R174): in turn BAD_REQUEST, COMMIT_PENDING, BAD_ENTRY with the first bad index
and nothing written, or DONE with the entries written. -/
def Obligations.StagingRequests : Prop :=
  ∀ (s : State) (source : Addr) (seq first count : Byte) (t : TableId) (entries : List Byte),
    s.takesRequests → source ≠ 63 → count ≠ 0 → entries.length = count.toNat * t.entrySize → entries.length ≤ 235 →
    let params := t.code :: first :: count :: entries
    let r : Request := ⟨source, seq, 0x01, params⟩
    let does := exec (.writeStaging source seq params) s
    let written := s.mgmt.staging.write t first.toNat (chunks t.entrySize count.toNat entries)
    (t.size < first.toNat + count.toNat → does = .next (s.answered r .badRequest [])) ∧
    (first.toNat + count.toNat ≤ t.size → s.mgmt.commit ≠ none → does = .next (s.answered r .commitPending [])) ∧
    (first.toNat + count.toNat ≤ t.size → s.mgmt.commit = none → ∀ i : Nat, written = .error i →
      does = .next (s.answered r .badEntry [byte i])) ∧
    (first.toNat + count.toNat ≤ t.size → s.mgmt.commit = none → ∀ b : Bank, written = .ok b →
      does = .next { s.answered r .done [] with
        mgmt := { s.mgmt with request := s.rep.inProgress r, staging := b } }) ∧
    (let q : Request := ⟨source, seq, 0x03, []⟩
     (s.mgmt.commit ≠ none → exec (.copyActive source seq []) s = .next (s.answered q .commitPending [])) ∧
     (s.mgmt.commit = none → exec (.copyActive source seq []) s = .next { s.answered q .done [] with
        mgmt := { s.mgmt with request := s.rep.inProgress q, staging := s.mgmt.active } }))

/-- Writing entries of a table (R171): the entries read are those written from the first index upward, every other entry
keeping its place; the error is the index of the first entry that fails its range check. -/
def Obligations.WrittenEntriesStandInOrder : Prop :=
  ∀ (α : Type) (n i : Nat) (read : List Byte → Option α) (raw : List (List Byte)) (v : Vector α n),
    (∀ es : List α, readEntries read i raw = .ok es →
      es.map some = raw.map read ∧
      ∀ (j : Nat) (h : j < n), (writeFrom i es v)[j] = (if i ≤ j then (es[j - i]?).getD v[j] else v[j])) ∧
    (∀ k : Nat, readEntries read i raw = .error k ↔
      i ≤ k ∧ (raw[k - i]?).map read = some none ∧ ∀ j : Nat, j < k - i → ∀ x, raw[j]? = some x → read x ≠ none)

/-- A table entry that passes its range check reads back as it was written (2.1.6, R44, R53, R92, R112, R133, R134, R171,
R172); of a GROUP_PLAN record the order and verdict measure positions that are not in use read back as 0. -/
def Obligations.EntriesReadBackAsWritten : Prop :=
  ∀ bs : List Byte,
    (∀ e : MapEntry, MapEntry.read bs = some e → e.encode = bs) ∧
    (∀ e : Plan, Plan.read bs = some e →
      let orders := (byteAt bs 10).toNat
      let measures := (byteAt bs 28).toNat
      bs.length = 53 ∧ orders ≤ 16 ∧ measures ≤ 8 ∧
      e.encode = bs.take (11 + orders) ++ List.replicate (16 - orders) 0 ++
        ((bs.drop 27).take (2 + 3 * measures) ++ List.replicate (24 - 3 * measures) 0)) ∧
    (∀ e : LimitEntry, LimitEntry.read bs = some e → e.encode = bs) ∧
    (∀ e : Signature, Signature.read bs = some e → e.encode = bs) ∧
    (∀ e : EventEntry, EventEntry.read bs = some e → e.encode = bs) ∧
    (∀ e : Route, Route.read bs = some e → e.encode = bs) ∧
    (∀ e : Settings, Settings.read bs = some e → e.encode = bs)

/-- COMMIT (R46, R54, R71, R86, R87, R93, R105, R113, R120, R172, R175, R178, R201): BUSY while one is pending;
INCONSISTENT with the table and index of the first failed check, in the order Channel Map, plans, limits, signatures
and Part Settings, and the lowest index in a table; otherwise ACCEPTED with the staging generation. Every group in
OFF, SEEKING, BLIND or QUIESCED switches, its vector, latch and last verdict cleared, an armed capture of it aborted,
and its state taken from its new plan; every other group keeps its context, vector and latch. The commit is then
pending, no other block changed, or complete, the other blocks taking the new settings and COMMIT_DONE offered (R177).
-/
def Obligations.CommitIsJudgedAndAccepted : Prop :=
  (∀ b : Bank,
    let maps := b.channelMap
    let clash := fun (i : Fin 64) => maps[i].valid = true ∧ ∃ j : Fin 64, j < i ∧ maps[j].valid = true ∧
      ((maps[i].node = maps[j].node ∧ maps[i].slot = maps[j].slot) ∨
        (maps[i].group = maps[j].group ∧ maps[i].chan = maps[j].chan))
    let carries := fun (g : Group) (c : Chan) (k : ChanKind) =>
      ∃ i : Fin 64, maps[i].valid = true ∧ maps[i].group = g ∧ maps[i].chan = c ∧ maps[i].kind = k
    let has := fun (g : Group) (k : ChanKind) => ∃ c : Chan, carries g c k
    let suits := fun (g : Group) (r : MeasureRef) => ∃ k : ChanKind, carries g r.chan k ∧
      let onA := k = .acA1 ∨ k = .acA2 ∨ k = .acA3
      let onB := k = .acB1 ∨ k = .acB2 ∨ k = .acB3
      let wholeA := has g .acA1 ∧ has g .acA2 ∧ has g .acA3
      let wholeB := has g .acB1 ∧ has g .acB2 ∧ has g .acB3
      match r.metric with
      | .mean | .rms | .peakToPeak => True
      | .amplitude => r.order ∈ b.plans[g].orders
      | .rippleRatio => k = .dcVoltage
      | .thd => (onA ∨ onB) ∧ 1 ∈ b.plans[g].orders
      | .phaseImbalance => (onA ∧ wholeA) ∨ (onB ∧ wholeB)
      | .bridgeBalance => (onA ∨ onB) ∧ wholeA ∧ wholeB
    let badPlan := fun (g : Group) => b.plans[g].enabled = true ∧
      ¬ (carries g b.plans[g].refChan .acVoltageRef ∧ carries g b.plans[g].condChan .dcCurrent ∧
        b.plans[g].orders.Pairwise (· < ·) ∧ (∀ h ∈ b.plans[g].orders, 1 ≤ h ∧ h ≤ 48) ∧
        ∀ r ∈ b.plans[g].measures, suits g r)
    let badLimit := fun (i : Fin 96) => b.limits[i].valid = true ∧ ¬ suits b.limits[i].group b.limits[i].ref
    let badSignature := fun (i : Fin 32) => b.signatures[i].valid = true ∧ b.signatures[i].care = 0
    let x := b.settings
    let badSettings := ¬ ((17 ≤ x.partAddr.toNat ∧ x.partAddr.toNat ≤ 62) ∧ x.reportDest.toNat ≤ 62 ∧
      x.eventDest.toNat ≤ 62 ∧ (2 ≤ x.staleMs ∧ x.staleMs ≤ 100) ∧ (50 ≤ x.commitMs ∧ x.commitMs ≤ 2000))
    (∀ i : Fin 64, clash i → (∀ j : Fin 64, j < i → ¬ clash j) → b.failure = some (.channelMap, i.val)) ∧
    ((∀ i : Fin 64, ¬ clash i) →
      (∀ g : Group, badPlan g → (∀ h : Group, h < g → ¬ badPlan h) → b.failure = some (.groupPlan, g.val)) ∧
      ((∀ g : Group, ¬ badPlan g) →
        (∀ i : Fin 96, badLimit i → (∀ j : Fin 96, j < i → ¬ badLimit j) → b.failure = some (.limit, i.val)) ∧
        ((∀ i : Fin 96, ¬ badLimit i) →
          (∀ i : Fin 32, badSignature i → (∀ j : Fin 32, j < i → ¬ badSignature j) →
            b.failure = some (.signature, i.val)) ∧
          ((∀ i : Fin 32, ¬ badSignature i) →
            (badSettings → b.failure = some (.partSettings, 0)) ∧ (¬ badSettings → b.failure = none)))))) ∧
  ∀ (s : State) (source : Addr) (seq : Byte), s.takesRequests → source ≠ 63 →
    let r : Request := ⟨source, seq, 0x04, []⟩
    let heard := { s with links := s.links.heardOnC }
    let stays := fun (g : Group) => (s.group g).state = .tracking ∨ (s.group g).state = .quiescing
    (s.mgmt.commit ≠ none → exec (.commit source seq []) s = .next (s.answered r .busy [])) ∧
    (s.mgmt.commit = none → ∀ (t : TableId) (i : Nat), s.mgmt.staging.failure = some (t, i) →
      exec (.commit source seq []) s = .next (s.answered r .inconsistent [t.code, byte i])) ∧
    (s.mgmt.commit = none → s.mgmt.staging.failure = none → s.mgmt.restartMark = false →
      ∃ t : State, exec (.commit source seq []) s = .next t ∧
        (s.rep.records.length < 64 → t.mgmt.request = none ∧ ∃ rest : List Held, t.rep.records =
          s.rep.records ++ ⟨source, .reply ⟨seq, 0x04, .accepted, be16 (s.mgmt.activeGen + 1)⟩⟩ :: rest) ∧
        (64 ≤ s.rep.records.length → t.mgmt.request = some r ∧ t.rep.records = s.rep.records ∧
          Waiting.reply source ⟨seq, 0x04, .accepted, be16 (s.mgmt.activeGen + 1)⟩ ∈ t.rep.waiting) ∧
        t.mgmt.staging = s.mgmt.staging ∧
        (∀ g : Group, ¬ stays g →
          (t.group g).gen = s.mgmt.activeGen + 1 ∧ t.vector g = 0 ∧ t.latch g = none ∧ t.ana.lastVerdicts[g] = none) ∧
        (∀ g : Group, stays g → t.group g = s.group g ∧ t.vector g = s.vector g ∧ t.latch g = s.latch g ∧
          t.mgmt.commit ≠ none) ∧
        t.CaptureEnded s (fun g => ¬ stays g) ∧
        (t.mgmt.commit = none → t.CompletedFrom heard (s.mgmt.activeGen + 1) 0) ∧
        (∀ c : Commit, t.mgmt.commit = some c →
          c.stagingGen = s.mgmt.activeGen + 1 ∧ c.timer = some 0 ∧ c.timeoutMs = s.settings.commitMs ∧ c.forced = 0 ∧
          (∀ g : Group, GroupSet.has c.switched g = true ↔ ¬ stays g) ∧
          (∀ g : Group, ¬ stays g → (t.group g).state =
            if (s.group g).state = .quiesced then .quiesced
            else if s.mgmt.staging.plans[g].enabled then .seeking else .off) ∧
          t.mgmt.activeGen = s.mgmt.activeGen ∧ t.mgmt.active = s.mgmt.active ∧
          t.links = heard.links ∧ t.sources = s.sources ∧ t.fwd = s.fwd ∧ t.disp = s.disp))

/-- HOLD and RELEASE (R182 to R184): BAD_REQUEST for a limit of 0 or above 60,000, BUSY during a hold; otherwise
ACCEPTED, the hold HOLDING while a window is SETTLING, QUEUED or EVALUATING and EFFECTIVE with its marker behind the
reply when none is. RELEASE is REFUSED without a hold; with one it is DONE, the hold ends and HOLD_ENDED follows the
reply. The hold limit reached (R185) ends it so too, with cause EXPIRY and no reply. -/
def Obligations.HoldReleaseAndExpiry : Prop :=
  (∀ s : State, s.pins.held = none →
    (s.mgmt.hold = none → exec .holdExpiry s = .next s) ∧
    (∀ h : Hold, s.mgmt.hold = some h →
      exec .holdExpiry s = .next { s with
        mgmt := { s.mgmt with hold := none }
        rep := ({ s.rep with
          waiting := s.rep.waiting.filter (fun w => w != .marker .holdEffective) } : ReportQueue).offerMarker
            s.settings.reportDest
            (.holdEnded .expiry (!h.effective || s.rep.waiting.any (fun w => w == .marker .holdEffective))) })) ∧
  ∀ (s : State) (source : Addr) (seq hi lo : Byte), s.takesRequests → source ≠ 63 →
    let limit := (hi ++ lo).toNat
    let r : Request := ⟨source, seq, 0x05, [hi, lo]⟩
    let q : Request := ⟨source, seq, 0x06, []⟩
    let rep := s.rep.withReply q .done []
    (limit = 0 ∨ 60000 < limit → exec (.hold source seq [hi, lo]) s = .next (s.answered r .badRequest [])) ∧
    (1 ≤ limit → limit ≤ 60000 → s.mgmt.hold ≠ none →
      exec (.hold source seq [hi, lo]) s = .next (s.answered r .busy [])) ∧
    (1 ≤ limit → limit ≤ 60000 → s.mgmt.hold = none → s.commitReady = false → s.mgmt.restartMark = false →
      exec (.hold source seq [hi, lo]) s = .next { s.answered r .accepted [] with
        mgmt := { s.mgmt with request := s.rep.inProgress r, hold := some ⟨!s.anyInFlight, 0, limit⟩ }
        rep := if s.anyInFlight then s.rep.withReply r .accepted []
          else (s.rep.withReply r .accepted []).offerMarker s.settings.reportDest .holdEffective }) ∧
    (s.mgmt.hold = none → exec (.release source seq []) s = .next (s.answered q .refused [])) ∧
    (∀ h : Hold, s.mgmt.hold = some h →
      exec (.release source seq []) s = .next { s.answered q .done [] with
        mgmt := { s.mgmt with request := s.rep.inProgress q, hold := none }
        rep := ({ rep with waiting := rep.waiting.filter (fun w => w != .marker .holdEffective) } : ReportQueue).offerMarker
          s.settings.reportDest
          (.holdEnded .request (!h.effective || rep.waiting.any (fun w => w == .marker .holdEffective))) })

/-- QUIESCE_GROUP and RESUME_GROUP (R69, R70, R107, R120, R186, R187): BAD_REQUEST for a group above 7, REFUSED where
they do not apply. A quiesce taken with no commit pending discards the OPEN window, aborts an armed capture of the
group (R202), and leaves the group QUIESCING while a window of it is QUEUED or EVALUATING, else QUIESCED with its
vector and latch cleared and its GROUP_QUIESCED marker offered behind the reply; so does the end of evaluation of the
last such window of a QUIESCING group. A resume takes the group to SEEKING or OFF by its plan. Other groups keep their
states. -/
def Obligations.QuiesceAndResume : Prop :=
  (∀ (s : State) (e : Evaluation), s.pins.held = none → s.ana.engine = some e → s.calm → s.mgmt.hold = none →
    let g := e.win.group
    let others := ∃ d : Desc, d ≠ e.win.desc ∧
      ((s.group g).descs[d].state = .queued ∨ (s.group g).descs[d].state = .evaluating)
    (s.group g).state = .quiescing →
    ∃ t : State, exec .evaluationEnd s = .next t ∧
      (others → (t.group g).state = .quiescing) ∧
      (¬ others → e.win ∉ s.ana.queue →
        (t.group g).state = .quiesced ∧ (∀ d : Desc, (t.group g).descs[d].state ≠ .queued) ∧
        (t.group g).descs[e.win.desc].state = .free ∧
        (∀ c : Chan, (t.group g).frontiers[c] = none) ∧ (t.group g).lastRef = none ∧ (t.group g).arm = false ∧
        t.vector g = 0 ∧ t.latch g = none ∧ t.rep.Shows (.groupQuiesced g)) ∧
      ∀ h : Group, h ≠ g → (t.group h).state = (s.group h).state ∧ t.vector h = s.vector h ∧ t.latch h = s.latch h) ∧
  ∀ (s : State) (source : Addr) (seq a : Byte), s.takesRequests → source ≠ 63 →
    let r : Request := ⟨source, seq, 0x07, [a]⟩
    let q : Request := ⟨source, seq, 0x08, [a]⟩
    (7 < a.toNat →
      exec (.quiesceGroup source seq [a]) s = .next (s.answered r .badRequest []) ∧
      exec (.resumeGroup source seq [a]) s = .next (s.answered q .badRequest [])) ∧
    (∀ g : Group, a = byte g.val →
      ((s.group g).state = .quiescing ∨ (s.group g).state = .quiesced →
        exec (.quiesceGroup source seq [a]) s = .next (s.answered r .refused [])) ∧
      ((s.group g).state ≠ .quiesced →
        exec (.resumeGroup source seq [a]) s = .next (s.answered q .refused [])) ∧
      ((s.group g).state = .quiesced →
        ∃ t : State, exec (.resumeGroup source seq [a]) s = .next t ∧
          t = { s.answered q .done [] with ana := { s.ana with groups := s.ana.groups.set g (t.group g) } } ∧
          (t.group g).state = (if (s.plan g).enabled then .seeking else .off) ∧ (t.group g).arm = false ∧
          (t.group g).lastRef = none ∧ (∀ c : Chan, (t.group g).frontiers[c] = none) ∧
          (t.group g).gen = (s.group g).gen ∧ (t.group g).descs = (s.group g).descs) ∧
      ((s.group g).state ≠ .quiescing → (s.group g).state ≠ .quiesced → s.WindowsOk → s.mgmt.commit = none →
        s.mgmt.restartMark = false →
        ∃ t : State, exec (.quiesceGroup source seq [a]) s = .next t ∧
          (s.rep.records.length < 64 → ∃ rest : List Held, t.rep.records =
            s.rep.records ++ ⟨source, .reply ⟨seq, 0x07, .accepted, []⟩⟩ :: rest) ∧
          (∀ d : Desc, (t.group g).descs[d].state ≠ .opened ∧
            ((s.group g).state ≠ .off → (t.group g).descs[d].state ≠ .settling)) ∧
          (t.group g).state = (if (t.group g).inFlight then .quiescing else .quiesced) ∧
          ((t.group g).state = .quiesced → t.vector g = 0 ∧ t.latch g = none ∧
            (s.rep.records.length < 64 → ∃ rest : List Held, t.rep.records =
              s.rep.records ++ ⟨source, .reply ⟨seq, 0x07, .accepted, []⟩⟩ :: rest ∧
              ((∃ x ∈ rest, x.record = .marker (.groupQuiesced g)) ∨ .marker (.groupQuiesced g) ∈ t.rep.waiting)) ∧
            t.rep.Shows (.groupQuiesced g)) ∧
          (∀ h : Group, h ≠ g → (t.group h).state = (s.group h).state ∧ t.vector h = s.vector h ∧ t.latch h = s.latch h) ∧
          t.CaptureEnded s (fun h => h = g) ∧
          t.sources = s.sources ∧ t.fwd = s.fwd ∧ t.mgmt.active = s.mgmt.active ∧ t.mgmt.staging = s.mgmt.staging))

/-- RESTART_ANALYSIS (R16, R17, R165, R181, R191): BAD_REQUEST for a flag above 1. With flag 0, or flag 1 and Port S not
UP, the restart takes effect at once, its DONE reply the queue's only record, or the one behind COMMIT_DONE when a
pending commit completes first; with flag 1 and Port S UP the mask timer starts, the mark goes out and the request stays
in progress. -/
def Obligations.RestartAnalysis : Prop :=
  ∀ (s : State) (source : Addr) (seq a : Byte), s.takesRequests → source ≠ 63 →
    let r : Request := ⟨source, seq, 0x0C, [a]⟩
    let does := exec (.restartAnalysis source seq [a]) s
    let heard := { s with
      links := { s.links.heardOnC with mask := if a = 1 then some 0 else s.links.mask } }
    let reply : Held := ⟨source, .reply ⟨seq, 0x0C, .done, []⟩⟩
    (1 < a.toNat → does = .next (s.answered r .badRequest [])) ∧
    (a = 0 ∨ (a = 1 ∧ s.links.s.link ≠ .up) →
      (s.mgmt.commit = none →
        ∃ t : State, does = .next t ∧ t.RestartedFrom heard ∧ t.rep = ⟨[reply], 0, []⟩) ∧
      (∀ c : Commit, s.mgmt.commit = some c →
        ∃ t : State, does = .next t ∧ t.mgmt.commit = none ∧ t.mgmt.request = none ∧
          t.mgmt.activeGen = c.stagingGen ∧ t.mgmt.active = s.mgmt.staging ∧
          (∀ g : Group, (t.group g).gen = c.stagingGen ∧ t.vector g = 0 ∧ t.latch g = none) ∧
          t.rep = ⟨[⟨s.mgmt.staging.settings.reportDest, .marker (.commitDone c.stagingGen
            (c.forced + (all8.filter (fun g => !GroupSet.has c.switched g)).length))⟩, reply], 0, []⟩)) ∧
    (a = 1 → s.links.s.link = .up →
      does = .next { heard with
        links := { heard.links with s := { s.links.s with
          tx := some ⟨.mark, buildFrame 0x01 63 s.partAddr 0 [0x11]⟩ } }
        mgmt := { s.mgmt with request := some r, restartMark := true } })

/-- ARM_SNAPSHOT (R196, R197): BAD_REQUEST for a group above 7, a trigger not 1 to 5, a channel above 7 or twice in the
list; BUSY while ARMED or READY; otherwise ACCEPTED with the group's window counter, which is the arming number, the
unit ARMED and the buffer emptied. -/
def Obligations.ArmSnapshot : Prop :=
  ∀ (s : State) (source : Addr) (seq a b : Byte) (chans : List Byte), s.takesRequests → source ≠ 63 →
    1 ≤ chans.length → chans.length ≤ 4 →
    let params := a :: b :: byte chans.length :: chans
    let r : Request := ⟨source, seq, 0x18, params⟩
    let does := exec (.armSnapshot source seq params) s
    let inRange := a.toNat ≤ 7 ∧ 1 ≤ b.toNat ∧ b.toNat ≤ 5 ∧ (∀ c ∈ chans, c.toNat ≤ 7) ∧ chans.Nodup
    (¬ inRange → does = .next (s.answered r .badRequest [])) ∧
    (inRange → s.snap.state ≠ .empty → does = .next (s.answered r .busy [])) ∧
    (inRange → s.snap.state = .empty → ∀ (g : Group) (t : Trigger) (cs : List Chan), a = byte g.val → b = t.code →
      chans = cs.map (fun c => byte c.val) →
      does = .next { s.answered r .accepted (be16 (s.group g).counter) with
        snap := ⟨.armed ⟨g, t, cs, (s.group g).counter⟩, Vector.replicate 192 (Vector.replicate 4 none)⟩ })

/-- READ_SNAPSHOT (R204): BAD_REQUEST for a count not 1 to 16 or a range past 192, NOT_READY unless a capture is READY,
and otherwise DONE with the header and the rows up to the captured length; reading changes nothing. RELEASE_SNAPSHOT
(R205): in every state DONE with no data, the unit EMPTY afterwards and its buffer emptied; in EMPTY nothing changes; no
marker is offered and no event raised. -/
def Obligations.ReadAndReleaseSnapshot : Prop :=
  ∀ (s : State) (source : Addr) (seq a b : Byte), s.takesRequests → source ≠ 63 →
    let r : Request := ⟨source, seq, 0x19, [a, b]⟩
    let does := exec (.readSnapshot source seq [a, b]) s
    let inRange := 1 ≤ b.toNat ∧ b.toNat ≤ 16 ∧ a.toNat + b.toNat ≤ 192
    (¬ inRange → does = .next (s.answered r .badRequest [])) ∧
    (inRange → (∀ (x : Arming) (h : CaptureHeader), s.snap.state ≠ .ready x h) →
      does = .next (s.answered r .notReady [])) ∧
    (inRange → ∀ (x : Arming) (h : CaptureHeader), s.snap.state = .ready x h →
      let rows := min b.toNat (h.len - a.toNat)
      does = .next (s.answered r .done
        ([byte x.group.val] ++ be16 h.window ++ be16 h.start ++ [byte h.len, h.outcome.code] ++ be16 h.tag
          ++ [x.trigger.code, byte x.chans.length] ++ x.chans.map (fun c => byte c.val) ++ [a, byte rows]
          ++ ((s.snap.buffer.toList.drop a.toNat).take rows).flatMap (fun row => encodeRow row x.chans.length)))) ∧
    (let q : Request := ⟨source, seq, 0x1A, []⟩
     (s.snap.state = .empty → exec (.releaseSnapshot source seq []) s = .next (s.answered q .done [])) ∧
     (s.snap.state ≠ .empty → exec (.releaseSnapshot source seq []) s = .next { s.answered q .done [] with
       snap := ⟨.empty, Vector.replicate 192 (Vector.replicate 4 none)⟩ }))

/-! ## Invariants -/

/-- The state after reset meets every invariant. -/
def Obligations.ResetMeetsInvariants : Prop :=
  State.reset.Sound ∧ State.reset.WindowsOk ∧ State.reset.ChecksOk ∧ State.reset.Settled

/-- Every step keeps the Report Queue within its bounds, detail kinds pending exactly while their stacks are nonempty,
ALERT_N asserted exactly while a latch holds a TRIP_REQUEST diagnosis, and the forward buffers within their bounds, the
one toward Port C empty while Port C is not UP (R26 to R28, R118, R127, R152, R157). -/
def Obligations.StepKeepsQueuesSound : Prop :=
  ∀ s t : State, s.Sound → step s = .next t → t.Sound

/-- Every step keeps at most one OPEN and one SETTLING window in a group, none OPEN outside TRACKING, and the Evaluation
Queue exactly the QUEUED windows without repeats, at most 16, with the engine's window the one EVALUATING (R65, R66,
R77). -/
def Obligations.StepKeepsWindowsSound : Prop :=
  ∀ s t : State, s.WindowsOk → step s = .next t → t.WindowsOk

/-- Every step keeps each group's generation the staging one exactly when its switched flag is set, a staging state set
exactly while a commit is pending, and every exceedance vector the one its entries give (R47, R94, R101, R178, R179). -/
def Obligations.StepKeepsChecksSound : Prop :=
  ∀ s t : State, s.ChecksOk → step s = .next t → t.ChecksOk

/-- Every step leaves no pending commit that could complete, no HOLDING hold with nothing in flight, no reset waiting for
a mark whose port is not UP, and never both an accepted mark's reset and a propagating restart awaited (R14, R15, R17,
R34, R176, R183; logs 12, 18). -/
def Obligations.StepLeavesNothingUnjudged : Prop :=
  ∀ s t : State, s.Settled → step s = .next t → t.Settled
end

