-- ==== Sys2Proof/Laws/State.lean ====
section
/-! SUPPORT. What each update of State leaves in each field, and what the reads see of it: one lemma per field per
update. -/

namespace Sys2Proof.Machine.State

@[simp] theorem setPending_pending (s : State) (x : List Instr) : (s.setPending x).pending = x := rfl
@[simp] theorem setPending_pins (s : State) (x : List Instr) : (s.setPending x).pins = s.pins := rfl
@[simp] theorem setPending_links (s : State) (x : List Instr) : (s.setPending x).links = s.links := rfl
@[simp] theorem setPending_fwd (s : State) (x : List Instr) : (s.setPending x).fwd = s.fwd := rfl
@[simp] theorem setPending_sources (s : State) (x : List Instr) : (s.setPending x).sources = s.sources := rfl
@[simp] theorem setPending_ana (s : State) (x : List Instr) : (s.setPending x).ana = s.ana := rfl
@[simp] theorem setPending_chk (s : State) (x : List Instr) : (s.setPending x).chk = s.chk := rfl
@[simp] theorem setPending_latches (s : State) (x : List Instr) : (s.setPending x).latches = s.latches := rfl
@[simp] theorem setPending_disp (s : State) (x : List Instr) : (s.setPending x).disp = s.disp := rfl
@[simp] theorem setPending_rep (s : State) (x : List Instr) : (s.setPending x).rep = s.rep := rfl
@[simp] theorem setPending_mgmt (s : State) (x : List Instr) : (s.setPending x).mgmt = s.mgmt := rfl
@[simp] theorem setPending_snap (s : State) (x : List Instr) : (s.setPending x).snap = s.snap := rfl

@[simp] theorem setPins_pending (s : State) (x : Pins) : (s.setPins x).pending = s.pending := rfl
@[simp] theorem setPins_pins (s : State) (x : Pins) : (s.setPins x).pins = x := rfl
@[simp] theorem setPins_links (s : State) (x : Pins) : (s.setPins x).links = s.links := rfl
@[simp] theorem setPins_fwd (s : State) (x : Pins) : (s.setPins x).fwd = s.fwd := rfl
@[simp] theorem setPins_sources (s : State) (x : Pins) : (s.setPins x).sources = s.sources := rfl
@[simp] theorem setPins_ana (s : State) (x : Pins) : (s.setPins x).ana = s.ana := rfl
@[simp] theorem setPins_chk (s : State) (x : Pins) : (s.setPins x).chk = s.chk := rfl
@[simp] theorem setPins_latches (s : State) (x : Pins) : (s.setPins x).latches = s.latches := rfl
@[simp] theorem setPins_disp (s : State) (x : Pins) : (s.setPins x).disp = s.disp := rfl
@[simp] theorem setPins_rep (s : State) (x : Pins) : (s.setPins x).rep = s.rep := rfl
@[simp] theorem setPins_mgmt (s : State) (x : Pins) : (s.setPins x).mgmt = s.mgmt := rfl
@[simp] theorem setPins_snap (s : State) (x : Pins) : (s.setPins x).snap = s.snap := rfl

@[simp] theorem setLinks_pending (s : State) (x : Links) : (s.setLinks x).pending = s.pending := rfl
@[simp] theorem setLinks_pins (s : State) (x : Links) : (s.setLinks x).pins = s.pins := rfl
@[simp] theorem setLinks_links (s : State) (x : Links) : (s.setLinks x).links = x := rfl
@[simp] theorem setLinks_fwd (s : State) (x : Links) : (s.setLinks x).fwd = s.fwd := rfl
@[simp] theorem setLinks_sources (s : State) (x : Links) : (s.setLinks x).sources = s.sources := rfl
@[simp] theorem setLinks_ana (s : State) (x : Links) : (s.setLinks x).ana = s.ana := rfl
@[simp] theorem setLinks_chk (s : State) (x : Links) : (s.setLinks x).chk = s.chk := rfl
@[simp] theorem setLinks_latches (s : State) (x : Links) : (s.setLinks x).latches = s.latches := rfl
@[simp] theorem setLinks_disp (s : State) (x : Links) : (s.setLinks x).disp = s.disp := rfl
@[simp] theorem setLinks_rep (s : State) (x : Links) : (s.setLinks x).rep = s.rep := rfl
@[simp] theorem setLinks_mgmt (s : State) (x : Links) : (s.setLinks x).mgmt = s.mgmt := rfl
@[simp] theorem setLinks_snap (s : State) (x : Links) : (s.setLinks x).snap = s.snap := rfl

@[simp] theorem setFwd_pending (s : State) (x : Forwarding) : (s.setFwd x).pending = s.pending := rfl
@[simp] theorem setFwd_pins (s : State) (x : Forwarding) : (s.setFwd x).pins = s.pins := rfl
@[simp] theorem setFwd_links (s : State) (x : Forwarding) : (s.setFwd x).links = s.links := rfl
@[simp] theorem setFwd_fwd (s : State) (x : Forwarding) : (s.setFwd x).fwd = x := rfl
@[simp] theorem setFwd_sources (s : State) (x : Forwarding) : (s.setFwd x).sources = s.sources := rfl
@[simp] theorem setFwd_ana (s : State) (x : Forwarding) : (s.setFwd x).ana = s.ana := rfl
@[simp] theorem setFwd_chk (s : State) (x : Forwarding) : (s.setFwd x).chk = s.chk := rfl
@[simp] theorem setFwd_latches (s : State) (x : Forwarding) : (s.setFwd x).latches = s.latches := rfl
@[simp] theorem setFwd_disp (s : State) (x : Forwarding) : (s.setFwd x).disp = s.disp := rfl
@[simp] theorem setFwd_rep (s : State) (x : Forwarding) : (s.setFwd x).rep = s.rep := rfl
@[simp] theorem setFwd_mgmt (s : State) (x : Forwarding) : (s.setFwd x).mgmt = s.mgmt := rfl
@[simp] theorem setFwd_snap (s : State) (x : Forwarding) : (s.setFwd x).snap = s.snap := rfl

@[simp] theorem setSources_pending (s : State) (x : Vector SourceEntry 16) : (s.setSources x).pending = s.pending := rfl
@[simp] theorem setSources_pins (s : State) (x : Vector SourceEntry 16) : (s.setSources x).pins = s.pins := rfl
@[simp] theorem setSources_links (s : State) (x : Vector SourceEntry 16) : (s.setSources x).links = s.links := rfl
@[simp] theorem setSources_fwd (s : State) (x : Vector SourceEntry 16) : (s.setSources x).fwd = s.fwd := rfl
@[simp] theorem setSources_sources (s : State) (x : Vector SourceEntry 16) : (s.setSources x).sources = x := rfl
@[simp] theorem setSources_ana (s : State) (x : Vector SourceEntry 16) : (s.setSources x).ana = s.ana := rfl
@[simp] theorem setSources_chk (s : State) (x : Vector SourceEntry 16) : (s.setSources x).chk = s.chk := rfl
@[simp] theorem setSources_latches (s : State) (x : Vector SourceEntry 16) : (s.setSources x).latches = s.latches := rfl
@[simp] theorem setSources_disp (s : State) (x : Vector SourceEntry 16) : (s.setSources x).disp = s.disp := rfl
@[simp] theorem setSources_rep (s : State) (x : Vector SourceEntry 16) : (s.setSources x).rep = s.rep := rfl
@[simp] theorem setSources_mgmt (s : State) (x : Vector SourceEntry 16) : (s.setSources x).mgmt = s.mgmt := rfl
@[simp] theorem setSources_snap (s : State) (x : Vector SourceEntry 16) : (s.setSources x).snap = s.snap := rfl

@[simp] theorem setAna_pending (s : State) (x : Analysis) : (s.setAna x).pending = s.pending := rfl
@[simp] theorem setAna_pins (s : State) (x : Analysis) : (s.setAna x).pins = s.pins := rfl
@[simp] theorem setAna_links (s : State) (x : Analysis) : (s.setAna x).links = s.links := rfl
@[simp] theorem setAna_fwd (s : State) (x : Analysis) : (s.setAna x).fwd = s.fwd := rfl
@[simp] theorem setAna_sources (s : State) (x : Analysis) : (s.setAna x).sources = s.sources := rfl
@[simp] theorem setAna_ana (s : State) (x : Analysis) : (s.setAna x).ana = x := rfl
@[simp] theorem setAna_chk (s : State) (x : Analysis) : (s.setAna x).chk = s.chk := rfl
@[simp] theorem setAna_latches (s : State) (x : Analysis) : (s.setAna x).latches = s.latches := rfl
@[simp] theorem setAna_disp (s : State) (x : Analysis) : (s.setAna x).disp = s.disp := rfl
@[simp] theorem setAna_rep (s : State) (x : Analysis) : (s.setAna x).rep = s.rep := rfl
@[simp] theorem setAna_mgmt (s : State) (x : Analysis) : (s.setAna x).mgmt = s.mgmt := rfl
@[simp] theorem setAna_snap (s : State) (x : Analysis) : (s.setAna x).snap = s.snap := rfl

@[simp] theorem setChk_pending (s : State) (x : CheckUnit) : (s.setChk x).pending = s.pending := rfl
@[simp] theorem setChk_pins (s : State) (x : CheckUnit) : (s.setChk x).pins = s.pins := rfl
@[simp] theorem setChk_links (s : State) (x : CheckUnit) : (s.setChk x).links = s.links := rfl
@[simp] theorem setChk_fwd (s : State) (x : CheckUnit) : (s.setChk x).fwd = s.fwd := rfl
@[simp] theorem setChk_sources (s : State) (x : CheckUnit) : (s.setChk x).sources = s.sources := rfl
@[simp] theorem setChk_ana (s : State) (x : CheckUnit) : (s.setChk x).ana = s.ana := rfl
@[simp] theorem setChk_chk (s : State) (x : CheckUnit) : (s.setChk x).chk = x := rfl
@[simp] theorem setChk_latches (s : State) (x : CheckUnit) : (s.setChk x).latches = s.latches := rfl
@[simp] theorem setChk_disp (s : State) (x : CheckUnit) : (s.setChk x).disp = s.disp := rfl
@[simp] theorem setChk_rep (s : State) (x : CheckUnit) : (s.setChk x).rep = s.rep := rfl
@[simp] theorem setChk_mgmt (s : State) (x : CheckUnit) : (s.setChk x).mgmt = s.mgmt := rfl
@[simp] theorem setChk_snap (s : State) (x : CheckUnit) : (s.setChk x).snap = s.snap := rfl

@[simp] theorem setLatches_pending (s : State) (x : Vector (Option Diagnosis) 8) : (s.setLatches x).pending = s.pending := rfl
@[simp] theorem setLatches_pins (s : State) (x : Vector (Option Diagnosis) 8) : (s.setLatches x).pins = s.pins := rfl
@[simp] theorem setLatches_links (s : State) (x : Vector (Option Diagnosis) 8) : (s.setLatches x).links = s.links := rfl
@[simp] theorem setLatches_fwd (s : State) (x : Vector (Option Diagnosis) 8) : (s.setLatches x).fwd = s.fwd := rfl
@[simp] theorem setLatches_sources (s : State) (x : Vector (Option Diagnosis) 8) : (s.setLatches x).sources = s.sources := rfl
@[simp] theorem setLatches_ana (s : State) (x : Vector (Option Diagnosis) 8) : (s.setLatches x).ana = s.ana := rfl
@[simp] theorem setLatches_chk (s : State) (x : Vector (Option Diagnosis) 8) : (s.setLatches x).chk = s.chk := rfl
@[simp] theorem setLatches_latches (s : State) (x : Vector (Option Diagnosis) 8) : (s.setLatches x).latches = x := rfl
@[simp] theorem setLatches_disp (s : State) (x : Vector (Option Diagnosis) 8) : (s.setLatches x).disp = s.disp := rfl
@[simp] theorem setLatches_rep (s : State) (x : Vector (Option Diagnosis) 8) : (s.setLatches x).rep = s.rep := rfl
@[simp] theorem setLatches_mgmt (s : State) (x : Vector (Option Diagnosis) 8) : (s.setLatches x).mgmt = s.mgmt := rfl
@[simp] theorem setLatches_snap (s : State) (x : Vector (Option Diagnosis) 8) : (s.setLatches x).snap = s.snap := rfl

@[simp] theorem setDisp_pending (s : State) (x : Dispatcher) : (s.setDisp x).pending = s.pending := rfl
@[simp] theorem setDisp_pins (s : State) (x : Dispatcher) : (s.setDisp x).pins = s.pins := rfl
@[simp] theorem setDisp_links (s : State) (x : Dispatcher) : (s.setDisp x).links = s.links := rfl
@[simp] theorem setDisp_fwd (s : State) (x : Dispatcher) : (s.setDisp x).fwd = s.fwd := rfl
@[simp] theorem setDisp_sources (s : State) (x : Dispatcher) : (s.setDisp x).sources = s.sources := rfl
@[simp] theorem setDisp_ana (s : State) (x : Dispatcher) : (s.setDisp x).ana = s.ana := rfl
@[simp] theorem setDisp_chk (s : State) (x : Dispatcher) : (s.setDisp x).chk = s.chk := rfl
@[simp] theorem setDisp_latches (s : State) (x : Dispatcher) : (s.setDisp x).latches = s.latches := rfl
@[simp] theorem setDisp_disp (s : State) (x : Dispatcher) : (s.setDisp x).disp = x := rfl
@[simp] theorem setDisp_rep (s : State) (x : Dispatcher) : (s.setDisp x).rep = s.rep := rfl
@[simp] theorem setDisp_mgmt (s : State) (x : Dispatcher) : (s.setDisp x).mgmt = s.mgmt := rfl
@[simp] theorem setDisp_snap (s : State) (x : Dispatcher) : (s.setDisp x).snap = s.snap := rfl

@[simp] theorem setRep_pending (s : State) (x : ReportQueue) : (s.setRep x).pending = s.pending := rfl
@[simp] theorem setRep_pins (s : State) (x : ReportQueue) : (s.setRep x).pins = s.pins := rfl
@[simp] theorem setRep_links (s : State) (x : ReportQueue) : (s.setRep x).links = s.links := rfl
@[simp] theorem setRep_fwd (s : State) (x : ReportQueue) : (s.setRep x).fwd = s.fwd := rfl
@[simp] theorem setRep_sources (s : State) (x : ReportQueue) : (s.setRep x).sources = s.sources := rfl
@[simp] theorem setRep_ana (s : State) (x : ReportQueue) : (s.setRep x).ana = s.ana := rfl
@[simp] theorem setRep_chk (s : State) (x : ReportQueue) : (s.setRep x).chk = s.chk := rfl
@[simp] theorem setRep_latches (s : State) (x : ReportQueue) : (s.setRep x).latches = s.latches := rfl
@[simp] theorem setRep_disp (s : State) (x : ReportQueue) : (s.setRep x).disp = s.disp := rfl
@[simp] theorem setRep_rep (s : State) (x : ReportQueue) : (s.setRep x).rep = x := rfl
@[simp] theorem setRep_mgmt (s : State) (x : ReportQueue) : (s.setRep x).mgmt = s.mgmt := rfl
@[simp] theorem setRep_snap (s : State) (x : ReportQueue) : (s.setRep x).snap = s.snap := rfl

@[simp] theorem setMgmt_pending (s : State) (x : Management) : (s.setMgmt x).pending = s.pending := rfl
@[simp] theorem setMgmt_pins (s : State) (x : Management) : (s.setMgmt x).pins = s.pins := rfl
@[simp] theorem setMgmt_links (s : State) (x : Management) : (s.setMgmt x).links = s.links := rfl
@[simp] theorem setMgmt_fwd (s : State) (x : Management) : (s.setMgmt x).fwd = s.fwd := rfl
@[simp] theorem setMgmt_sources (s : State) (x : Management) : (s.setMgmt x).sources = s.sources := rfl
@[simp] theorem setMgmt_ana (s : State) (x : Management) : (s.setMgmt x).ana = s.ana := rfl
@[simp] theorem setMgmt_chk (s : State) (x : Management) : (s.setMgmt x).chk = s.chk := rfl
@[simp] theorem setMgmt_latches (s : State) (x : Management) : (s.setMgmt x).latches = s.latches := rfl
@[simp] theorem setMgmt_disp (s : State) (x : Management) : (s.setMgmt x).disp = s.disp := rfl
@[simp] theorem setMgmt_rep (s : State) (x : Management) : (s.setMgmt x).rep = s.rep := rfl
@[simp] theorem setMgmt_mgmt (s : State) (x : Management) : (s.setMgmt x).mgmt = x := rfl
@[simp] theorem setMgmt_snap (s : State) (x : Management) : (s.setMgmt x).snap = s.snap := rfl

@[simp] theorem setSnap_pending (s : State) (x : SnapshotUnit) : (s.setSnap x).pending = s.pending := rfl
@[simp] theorem setSnap_pins (s : State) (x : SnapshotUnit) : (s.setSnap x).pins = s.pins := rfl
@[simp] theorem setSnap_links (s : State) (x : SnapshotUnit) : (s.setSnap x).links = s.links := rfl
@[simp] theorem setSnap_fwd (s : State) (x : SnapshotUnit) : (s.setSnap x).fwd = s.fwd := rfl
@[simp] theorem setSnap_sources (s : State) (x : SnapshotUnit) : (s.setSnap x).sources = s.sources := rfl
@[simp] theorem setSnap_ana (s : State) (x : SnapshotUnit) : (s.setSnap x).ana = s.ana := rfl
@[simp] theorem setSnap_chk (s : State) (x : SnapshotUnit) : (s.setSnap x).chk = s.chk := rfl
@[simp] theorem setSnap_latches (s : State) (x : SnapshotUnit) : (s.setSnap x).latches = s.latches := rfl
@[simp] theorem setSnap_disp (s : State) (x : SnapshotUnit) : (s.setSnap x).disp = s.disp := rfl
@[simp] theorem setSnap_rep (s : State) (x : SnapshotUnit) : (s.setSnap x).rep = s.rep := rfl
@[simp] theorem setSnap_mgmt (s : State) (x : SnapshotUnit) : (s.setSnap x).mgmt = s.mgmt := rfl
@[simp] theorem setSnap_snap (s : State) (x : SnapshotUnit) : (s.setSnap x).snap = x := rfl

@[simp] theorem port_s (s : State) : s.port .s = s.links.s := rfl
@[simp] theorem port_c (s : State) : s.port .c = s.links.c := rfl
@[simp] theorem setPort_s (s : State) (x : PortState) : s.setPort .s x = s.setLinks { s.links with s := x } := rfl
@[simp] theorem setPort_c (s : State) (x : PortState) : s.setPort .c x = s.setLinks { s.links with c := x } := rfl
@[simp] theorem setGroup_eq (s : State) (g : Group) (x : GroupCtx) :
    s.setGroup g x = s.setAna { s.ana with groups := s.ana.groups.set g x } := rfl

@[simp] theorem setPending_isHeld (s : State) (x : List Instr) : (s.setPending x).isHeld = s.isHeld := rfl
@[simp] theorem setLinks_isHeld (s : State) (x : Links) : (s.setLinks x).isHeld = s.isHeld := rfl
@[simp] theorem setFwd_isHeld (s : State) (x : Forwarding) : (s.setFwd x).isHeld = s.isHeld := rfl
@[simp] theorem setSources_isHeld (s : State) (x : Vector SourceEntry 16) : (s.setSources x).isHeld = s.isHeld := rfl
@[simp] theorem setAna_isHeld (s : State) (x : Analysis) : (s.setAna x).isHeld = s.isHeld := rfl
@[simp] theorem setChk_isHeld (s : State) (x : CheckUnit) : (s.setChk x).isHeld = s.isHeld := rfl
@[simp] theorem setLatches_isHeld (s : State) (x : Vector (Option Diagnosis) 8) : (s.setLatches x).isHeld = s.isHeld := rfl
@[simp] theorem setDisp_isHeld (s : State) (x : Dispatcher) : (s.setDisp x).isHeld = s.isHeld := rfl
@[simp] theorem setRep_isHeld (s : State) (x : ReportQueue) : (s.setRep x).isHeld = s.isHeld := rfl
@[simp] theorem setMgmt_isHeld (s : State) (x : Management) : (s.setMgmt x).isHeld = s.isHeld := rfl
@[simp] theorem setSnap_isHeld (s : State) (x : SnapshotUnit) : (s.setSnap x).isHeld = s.isHeld := rfl
@[simp] theorem setPending_resetComing (s : State) (x : List Instr) : (s.setPending x).resetComing = s.resetComing := rfl
@[simp] theorem setPins_resetComing (s : State) (x : Pins) : (s.setPins x).resetComing = s.resetComing := rfl
@[simp] theorem setFwd_resetComing (s : State) (x : Forwarding) : (s.setFwd x).resetComing = s.resetComing := rfl
@[simp] theorem setSources_resetComing (s : State) (x : Vector SourceEntry 16) : (s.setSources x).resetComing = s.resetComing := rfl
@[simp] theorem setAna_resetComing (s : State) (x : Analysis) : (s.setAna x).resetComing = s.resetComing := rfl
@[simp] theorem setChk_resetComing (s : State) (x : CheckUnit) : (s.setChk x).resetComing = s.resetComing := rfl
@[simp] theorem setLatches_resetComing (s : State) (x : Vector (Option Diagnosis) 8) : (s.setLatches x).resetComing = s.resetComing := rfl
@[simp] theorem setDisp_resetComing (s : State) (x : Dispatcher) : (s.setDisp x).resetComing = s.resetComing := rfl
@[simp] theorem setRep_resetComing (s : State) (x : ReportQueue) : (s.setRep x).resetComing = s.resetComing := rfl
@[simp] theorem setSnap_resetComing (s : State) (x : SnapshotUnit) : (s.setSnap x).resetComing = s.resetComing := rfl
@[simp] theorem setPending_settings (s : State) (x : List Instr) : (s.setPending x).settings = s.settings := rfl
@[simp] theorem setPins_settings (s : State) (x : Pins) : (s.setPins x).settings = s.settings := rfl
@[simp] theorem setLinks_settings (s : State) (x : Links) : (s.setLinks x).settings = s.settings := rfl
@[simp] theorem setFwd_settings (s : State) (x : Forwarding) : (s.setFwd x).settings = s.settings := rfl
@[simp] theorem setSources_settings (s : State) (x : Vector SourceEntry 16) : (s.setSources x).settings = s.settings := rfl
@[simp] theorem setAna_settings (s : State) (x : Analysis) : (s.setAna x).settings = s.settings := rfl
@[simp] theorem setChk_settings (s : State) (x : CheckUnit) : (s.setChk x).settings = s.settings := rfl
@[simp] theorem setLatches_settings (s : State) (x : Vector (Option Diagnosis) 8) : (s.setLatches x).settings = s.settings := rfl
@[simp] theorem setDisp_settings (s : State) (x : Dispatcher) : (s.setDisp x).settings = s.settings := rfl
@[simp] theorem setRep_settings (s : State) (x : ReportQueue) : (s.setRep x).settings = s.settings := rfl
@[simp] theorem setSnap_settings (s : State) (x : SnapshotUnit) : (s.setSnap x).settings = s.settings := rfl
@[simp] theorem setPending_partAddr (s : State) (x : List Instr) : (s.setPending x).partAddr = s.partAddr := rfl
@[simp] theorem setPins_partAddr (s : State) (x : Pins) : (s.setPins x).partAddr = s.partAddr := rfl
@[simp] theorem setLinks_partAddr (s : State) (x : Links) : (s.setLinks x).partAddr = s.partAddr := rfl
@[simp] theorem setFwd_partAddr (s : State) (x : Forwarding) : (s.setFwd x).partAddr = s.partAddr := rfl
@[simp] theorem setSources_partAddr (s : State) (x : Vector SourceEntry 16) : (s.setSources x).partAddr = s.partAddr := rfl
@[simp] theorem setAna_partAddr (s : State) (x : Analysis) : (s.setAna x).partAddr = s.partAddr := rfl
@[simp] theorem setChk_partAddr (s : State) (x : CheckUnit) : (s.setChk x).partAddr = s.partAddr := rfl
@[simp] theorem setLatches_partAddr (s : State) (x : Vector (Option Diagnosis) 8) : (s.setLatches x).partAddr = s.partAddr := rfl
@[simp] theorem setDisp_partAddr (s : State) (x : Dispatcher) : (s.setDisp x).partAddr = s.partAddr := rfl
@[simp] theorem setRep_partAddr (s : State) (x : ReportQueue) : (s.setRep x).partAddr = s.partAddr := rfl
@[simp] theorem setSnap_partAddr (s : State) (x : SnapshotUnit) : (s.setSnap x).partAddr = s.partAddr := rfl
@[simp] theorem setPending_holding (s : State) (x : List Instr) : (s.setPending x).holding = s.holding := rfl
@[simp] theorem setPins_holding (s : State) (x : Pins) : (s.setPins x).holding = s.holding := rfl
@[simp] theorem setLinks_holding (s : State) (x : Links) : (s.setLinks x).holding = s.holding := rfl
@[simp] theorem setFwd_holding (s : State) (x : Forwarding) : (s.setFwd x).holding = s.holding := rfl
@[simp] theorem setSources_holding (s : State) (x : Vector SourceEntry 16) : (s.setSources x).holding = s.holding := rfl
@[simp] theorem setAna_holding (s : State) (x : Analysis) : (s.setAna x).holding = s.holding := rfl
@[simp] theorem setChk_holding (s : State) (x : CheckUnit) : (s.setChk x).holding = s.holding := rfl
@[simp] theorem setLatches_holding (s : State) (x : Vector (Option Diagnosis) 8) : (s.setLatches x).holding = s.holding := rfl
@[simp] theorem setDisp_holding (s : State) (x : Dispatcher) : (s.setDisp x).holding = s.holding := rfl
@[simp] theorem setRep_holding (s : State) (x : ReportQueue) : (s.setRep x).holding = s.holding := rfl
@[simp] theorem setSnap_holding (s : State) (x : SnapshotUnit) : (s.setSnap x).holding = s.holding := rfl
@[simp] theorem setPending_isUp (s : State) (x : List Instr) (p : Port) : (s.setPending x).isUp p = s.isUp p := by
  cases p <;> rfl
@[simp] theorem setPins_isUp (s : State) (x : Pins) (p : Port) : (s.setPins x).isUp p = s.isUp p := by
  cases p <;> rfl
@[simp] theorem setFwd_isUp (s : State) (x : Forwarding) (p : Port) : (s.setFwd x).isUp p = s.isUp p := by
  cases p <;> rfl
@[simp] theorem setSources_isUp (s : State) (x : Vector SourceEntry 16) (p : Port) : (s.setSources x).isUp p = s.isUp p := by
  cases p <;> rfl
@[simp] theorem setAna_isUp (s : State) (x : Analysis) (p : Port) : (s.setAna x).isUp p = s.isUp p := by
  cases p <;> rfl
@[simp] theorem setChk_isUp (s : State) (x : CheckUnit) (p : Port) : (s.setChk x).isUp p = s.isUp p := by
  cases p <;> rfl
@[simp] theorem setLatches_isUp (s : State) (x : Vector (Option Diagnosis) 8) (p : Port) : (s.setLatches x).isUp p = s.isUp p := by
  cases p <;> rfl
@[simp] theorem setDisp_isUp (s : State) (x : Dispatcher) (p : Port) : (s.setDisp x).isUp p = s.isUp p := by
  cases p <;> rfl
@[simp] theorem setRep_isUp (s : State) (x : ReportQueue) (p : Port) : (s.setRep x).isUp p = s.isUp p := by
  cases p <;> rfl
@[simp] theorem setMgmt_isUp (s : State) (x : Management) (p : Port) : (s.setMgmt x).isUp p = s.isUp p := by
  cases p <;> rfl
@[simp] theorem setSnap_isUp (s : State) (x : SnapshotUnit) (p : Port) : (s.setSnap x).isUp p = s.isUp p := by
  cases p <;> rfl
@[simp] theorem setPending_group (s : State) (x : List Instr) (g : Group) : (s.setPending x).group g = s.group g := rfl
@[simp] theorem setPins_group (s : State) (x : Pins) (g : Group) : (s.setPins x).group g = s.group g := rfl
@[simp] theorem setLinks_group (s : State) (x : Links) (g : Group) : (s.setLinks x).group g = s.group g := rfl
@[simp] theorem setFwd_group (s : State) (x : Forwarding) (g : Group) : (s.setFwd x).group g = s.group g := rfl
@[simp] theorem setSources_group (s : State) (x : Vector SourceEntry 16) (g : Group) : (s.setSources x).group g = s.group g := rfl
@[simp] theorem setChk_group (s : State) (x : CheckUnit) (g : Group) : (s.setChk x).group g = s.group g := rfl
@[simp] theorem setLatches_group (s : State) (x : Vector (Option Diagnosis) 8) (g : Group) : (s.setLatches x).group g = s.group g := rfl
@[simp] theorem setDisp_group (s : State) (x : Dispatcher) (g : Group) : (s.setDisp x).group g = s.group g := rfl
@[simp] theorem setRep_group (s : State) (x : ReportQueue) (g : Group) : (s.setRep x).group g = s.group g := rfl
@[simp] theorem setMgmt_group (s : State) (x : Management) (g : Group) : (s.setMgmt x).group g = s.group g := rfl
@[simp] theorem setSnap_group (s : State) (x : SnapshotUnit) (g : Group) : (s.setSnap x).group g = s.group g := rfl
@[simp] theorem setPending_bankOf (s : State) (x : List Instr) (g : Gen) : (s.setPending x).bankOf g = s.bankOf g := rfl
@[simp] theorem setPins_bankOf (s : State) (x : Pins) (g : Gen) : (s.setPins x).bankOf g = s.bankOf g := rfl
@[simp] theorem setLinks_bankOf (s : State) (x : Links) (g : Gen) : (s.setLinks x).bankOf g = s.bankOf g := rfl
@[simp] theorem setFwd_bankOf (s : State) (x : Forwarding) (g : Gen) : (s.setFwd x).bankOf g = s.bankOf g := rfl
@[simp] theorem setSources_bankOf (s : State) (x : Vector SourceEntry 16) (g : Gen) : (s.setSources x).bankOf g = s.bankOf g := rfl
@[simp] theorem setAna_bankOf (s : State) (x : Analysis) (g : Gen) : (s.setAna x).bankOf g = s.bankOf g := rfl
@[simp] theorem setChk_bankOf (s : State) (x : CheckUnit) (g : Gen) : (s.setChk x).bankOf g = s.bankOf g := rfl
@[simp] theorem setLatches_bankOf (s : State) (x : Vector (Option Diagnosis) 8) (g : Gen) : (s.setLatches x).bankOf g = s.bankOf g := rfl
@[simp] theorem setDisp_bankOf (s : State) (x : Dispatcher) (g : Gen) : (s.setDisp x).bankOf g = s.bankOf g := rfl
@[simp] theorem setRep_bankOf (s : State) (x : ReportQueue) (g : Gen) : (s.setRep x).bankOf g = s.bankOf g := rfl
@[simp] theorem setSnap_bankOf (s : State) (x : SnapshotUnit) (g : Gen) : (s.setSnap x).bankOf g = s.bankOf g := rfl

end Sys2Proof.Machine.State
end

