-- ==== Sys2Proof/Laws/Events.lean ====
section
/-! SUPPORT. The Event Dispatcher: kind sets flag by flag, and each move keeping the stacks as R127 states. -/

namespace Sys2Proof.Machine

theorem EventKind.code_lt (k : EventKind) : k.code < 16 := by cases k <;> decide

theorem EventKind.code_inj {j k : EventKind} (h : j.code = k.code) : j = k := by
  cases j <;> cases k <;> first | rfl | exact absurd h (by decide)

/-- A flag of the set of one kind. -/
theorem EventKind.has_flag (j k : EventKind) : KindSet.has j.flag k = decide (j = k) := by
  cases j <;> cases k <;> decide

/-- Setting a kind sets its flag and no other. -/
theorem KindSet.has_set (x : KindSet) (j k : EventKind) :
    KindSet.has (KindSet.set x j) k = (KindSet.has x k || decide (j = k)) := by
  have := EventKind.has_flag j k
  unfold KindSet.has at this
  simp [KindSet.has, KindSet.set, BitVec.getLsbD_or, this]

/-- Clearing a kind clears its flag and no other. -/
theorem KindSet.has_clear (x : KindSet) (j k : EventKind) :
    KindSet.has (KindSet.clear x j) k = (KindSet.has x k && !decide (j = k)) := by
  have := EventKind.has_flag j k
  have hk := k.code_lt
  unfold KindSet.has at this
  unfold KindSet.has KindSet.clear
  rw [BitVec.getLsbD_and, BitVec.getLsbD_not, this]
  simp [hk]

theorem DetailKind.kind_inj {j k : DetailKind} (h : j.kind = k.kind) : j = k := by
  cases j <;> cases k <;> first | rfl | exact absurd h (by decide)

theorem EventKind.detailKind_some {k : EventKind} {d : DetailKind} (h : k.detailKind = some d) : k = d.kind := by
  cases k <;> simp [EventKind.detailKind] at h <;> subst h <;> rfl

theorem DetailKind.detailKind_kind (d : DetailKind) : d.kind.detailKind = some d := by cases d <;> rfl

namespace Dispatcher

@[simp] theorem stack_setStack_self (d : Dispatcher) (k : DetailKind) (l : List Detail) :
    (d.setStack k l).stack k = l := by cases k <;> rfl

theorem stack_setStack_ne (d : Dispatcher) {j k : DetailKind} (h : j ≠ k) (l : List Detail) :
    (d.setStack j l).stack k = d.stack k := by
  cases j <;> cases k <;> first | rfl | exact absurd rfl h

@[simp] theorem pending_setStack (d : Dispatcher) (k : DetailKind) (l : List Detail) :
    (d.setStack k l).pending = d.pending := by cases k <;> rfl
@[simp] theorem mask_setStack (d : Dispatcher) (k : DetailKind) (l : List Detail) :
    (d.setStack k l).mask = d.mask := by cases k <;> rfl
@[simp] theorem raw_setStack (d : Dispatcher) (k : DetailKind) (l : List Detail) :
    (d.setStack k l).raw = d.raw := by cases k <;> rfl
@[simp] theorem status_setStack (d : Dispatcher) (k : DetailKind) (l : List Detail) :
    (d.setStack k l).status = d.status := by cases k <;> rfl
@[simp] theorem slot_setStack (d : Dispatcher) (k : DetailKind) (l : List Detail) :
    (d.setStack k l).slot = d.slot := by cases k <;> rfl
@[simp] theorem last_setStack (d : Dispatcher) (k : DetailKind) (l : List Detail) :
    (d.setStack k l).last = d.last := by cases k <;> rfl

@[simp] theorem stack_raise (d : Dispatcher) (k : EventKind) (j : DetailKind) :
    (d.raise k).stack j = d.stack j := by cases j <;> rfl

theorem stack_of_stacks {d e : Dispatcher} (h : e.fifos = d.fifos) (j : DetailKind) : e.stack j = d.stack j := by
  cases j <;> simp only [stack, h]

theorem ok_of_eq {d e : Dispatcher} (h : d.ok) (hp : e.pending = d.pending)
    (hs : ∀ k, e.stack k = d.stack k) : e.ok := by
  intro k
  rw [hs k, hp]
  exact h k

/-- Raising a kind without detail keeps the dispatcher sound (R126). -/
theorem ok.raise {d : Dispatcher} (h : d.ok) {k : EventKind} (hk : k.detailKind = none) : (d.raise k).ok := by
  intro j
  have hne : k ≠ j.kind := by
    intro he; rw [he, DetailKind.detailKind_kind] at hk; exact absurd hk (by simp)
  rw [stack_raise]
  simp only [Dispatcher.raise, KindSet.has_set, hne, decide_false, Bool.or_false]
  exact h j

/-- Raising a detail kind keeps the dispatcher sound (R127). -/
theorem ok.raiseDetail {d : Dispatcher} (h : d.ok) (k : DetailKind) (e : Detail) : (d.raiseDetail k e).ok := by
  unfold Dispatcher.raiseDetail
  split
  · intro j
    by_cases hj : k = j
    · subst hj
      refine ⟨?_, ?_⟩
      · simp only [stack_raise, stack_setStack_self, List.length_append, List.length_cons, List.length_nil]
        have : (d.stack k).length < 4 := ‹_›
        omega
      · rw [stack_raise, stack_setStack_self]
        simp [Dispatcher.raise, KindSet.has_set]
    · have hne : k.kind ≠ j.kind := fun he => hj (DetailKind.kind_inj he)
      rw [stack_raise, stack_setStack_ne d hj]
      simp only [Dispatcher.raise, KindSet.has_set, hne, decide_false, Bool.or_false, pending_setStack]
      exact h j
  · have hfull : ¬ (d.stack k).length < 4 := ‹_›
    refine ok.raise (k := .detailOverrun) ?_ rfl
    intro j
    rw [stack_raise]
    by_cases hj : k = j
    · subst hj
      refine ⟨(h k).1, ?_⟩
      have : d.stack k ≠ [] := by intro hn; rw [hn] at hfull; simp at hfull
      simp [Dispatcher.raise, KindSet.has_set, this]
    · have hne : k.kind ≠ j.kind := fun he => hj (DetailKind.kind_inj he)
      simp only [Dispatcher.raise, KindSet.has_set, hne, decide_false, Bool.or_false]
      exact h j

/-- Consuming one occurrence keeps the dispatcher sound (R138). -/
theorem ok.consume {d : Dispatcher} (h : d.ok) (k : EventKind) : (d.consume k).ok := by
  unfold Dispatcher.consume
  split
  next hk =>
    intro j
    have hne : k ≠ j.kind := by
      intro he; rw [he, DetailKind.detailKind_kind] at hk; exact absurd hk (by simp)
    have hs : ({ d with pending := KindSet.clear d.pending k } : Dispatcher).stack j = d.stack j := by
      cases j <;> rfl
    rw [hs]
    simp only [KindSet.has_clear, hne, decide_false, Bool.not_false, Bool.and_true]
    exact h j
  next dk hk =>
    have hkk := EventKind.detailKind_some hk
    subst hkk
    dsimp only
    intro j
    by_cases hj : dk = j
    · subst hj
      have hlen := (h dk).1
      split
      next he =>
        have hs : ∀ x : KindSet, ({ d.setStack dk (d.stack dk).tail with pending := x } : Dispatcher).stack dk
            = (d.stack dk).tail := by
          intro x
          exact (stack_of_stacks (d := d.setStack dk (d.stack dk).tail) rfl dk).trans (stack_setStack_self _ _ _)
        simp only [hs]
        refine ⟨by simp; omega, ?_⟩
        simp only [List.isEmpty_iff] at he
        simp [KindSet.has_clear, he]
      next he =>
        simp only [List.isEmpty_iff] at he
        refine ⟨by simp; omega, ?_⟩
        have hne : d.stack dk ≠ [] := by intro hn; rw [hn] at he; exact he rfl
        have := (h dk).2.2 hne
        simp [this, he]
    · have hne : dk.kind ≠ j.kind := fun he => hj (DetailKind.kind_inj he)
      split
      · have hs : ∀ x : KindSet, ({ d.setStack dk (d.stack dk).tail with pending := x } : Dispatcher).stack j
            = d.stack j := by
          intro x
          exact (stack_of_stacks (d := d.setStack dk (d.stack dk).tail) rfl j).trans (stack_setStack_ne d hj _)
        simp only [hs, KindSet.has_clear, hne, decide_false, Bool.not_false, Bool.and_true, pending_setStack]
        exact h j
      · rw [stack_setStack_ne d hj, pending_setStack]
        exact h j

/-- The handling of a selected kind keeps the dispatcher sound (R138 to R140). -/
theorem ok.dispatch {d : Dispatcher} (h : d.ok) (b : Bank) (k : EventKind) : (d.dispatch b k).ok := by
  have h1 : ({ d with last := k, raw := KindSet.set d.raw k } : Dispatcher).ok :=
    ok_of_eq h rfl (fun j => by cases j <;> rfl)
  unfold Dispatcher.dispatch
  dsimp only
  split
  · exact h1.consume k
  · split
    · exact h1.consume k
    · exact ok_of_eq (h1.consume k) rfl (fun j => by cases j <;> rfl)

theorem reset_ok : Dispatcher.reset.ok := by intro k; cases k <;> simp [Dispatcher.reset, Dispatcher.stack] <;> decide

theorem ok.restart (d : Dispatcher) : d.restart.ok :=
  ok_of_eq reset_ok rfl (fun j => by cases j <;> rfl)

end Dispatcher
end Sys2Proof.Machine
end

