-- ==== Sys2Proof/Laws/Measures.lean ====
section
/-! SUPPORT. What the helpers of the measures answer: sums, the search for the largest number, the integer square root,
the filling. -/

namespace Sys2Proof.Machine

/-! ## Sums and saturation -/

theorem sumInt_eq_sum (xs : List Int) : sumInt xs = xs.sum := by
  rw [sumInt, List.sum_eq_foldl]

theorem sumNat_eq_sum (xs : List Nat) : sumNat xs = xs.sum := by
  rw [sumNat, List.sum_eq_foldl]

/-- A value within full scale is not saturated (R49, R80). -/
theorem clampFull_of_mem {v : Int} (lo : -32767 ≤ v) (hi : v ≤ 32767) : clampFull v = v := by
  unfold clampFull Config.fullScale
  omega

/-! ## The largest number that qualifies -/

/-- The search answers a number that qualifies, below its bound, and no larger one below the bound does. -/
theorem searchMax_spec (p : Nat → Bool) (down : ∀ a b : Nat, a ≤ b → p b = true → p a = true) (bits acc : Nat)
    (hp : p acc = true) :
    p (searchMax p bits acc) = true ∧ acc ≤ searchMax p bits acc ∧ searchMax p bits acc < acc + 2 ^ bits ∧
      ∀ k : Nat, k < acc + 2 ^ bits → p k = true → k ≤ searchMax p bits acc := by
  induction bits generalizing acc with
  | zero => exact ⟨hp, le_rfl, by simp [searchMax], fun k hk _ => by simp only [searchMax]; omega⟩
  | succ b ih =>
    have hb : 2 ^ (b + 1) = 2 ^ b + 2 ^ b := by ring
    unfold searchMax
    split
    next h =>
      obtain ⟨h1, h2, h3, h4⟩ := ih (acc + 2 ^ b) h
      exact ⟨h1, by omega, by omega, fun k hk => h4 k (by omega)⟩
    next h =>
      obtain ⟨h1, h2, h3, h4⟩ := ih acc hp
      refine ⟨h1, h2, by omega, fun k hk pk => h4 k ?_ pk⟩
      by_contra hge
      exact h (down _ _ (by omega) pk)

/-- The integer square root of a number below 2^64. -/
theorem isqrt_spec (n : Nat) (hn : n < 2 ^ 64) : isqrt n ^ 2 ≤ n ∧ n < (isqrt n + 1) ^ 2 := by
  obtain ⟨h1, -, -, h4⟩ := searchMax_spec (fun r => decide (r * r ≤ n))
    (fun a b hab hb => by
      simp only [decide_eq_true_eq] at hb ⊢
      exact (Nat.mul_le_mul hab hab).trans hb) 32 0 (by simp)
  simp only [decide_eq_true_eq, Nat.zero_add] at h1 h4
  refine ⟨by rw [pow_two]; exact h1, ?_⟩
  by_contra hle
  have hq : (isqrt n + 1) * (isqrt n + 1) ≤ n := by rw [← pow_two]; omega
  have hlt : isqrt n + 1 < 2 ^ 32 := by
    by_contra hge
    have := Nat.mul_le_mul (Nat.not_lt.mp hge) (Nat.not_lt.mp hge)
    omega
  have := h4 _ hlt hq
  unfold isqrt at this
  omega

/-! ## Filling (R81) -/

@[simp]
theorem length_fillFrom (p : Int) (xs : List (Option Int)) : (fillFrom p xs).length = xs.length := by
  induction xs generalizing p with
  | nil => rfl
  | cons x rest ih => cases x <;> simp [fillFrom, ih]

/-- There is no first present sample exactly when every tick is missing. -/
theorem firstPresent_eq_none (xs : List (Option Int)) : firstPresent xs = none ↔ ∀ x ∈ xs, x = none := by
  induction xs with
  | nil => simp [firstPresent]
  | cons x rest ih => cases x <;> simp [firstPresent, ih]

end Sys2Proof.Machine
end

