-- ==== Sys2Proof/Laws/Reports.lean ====
section
/-! SUPPORT. The Report Queue: each move keeps it as R152 and R157 state. -/

namespace Sys2Proof.Machine.ReportQueue

/-- Verdicts held, counted record by record. -/
theorem verdicts_append (q : ReportQueue) (r : Held) :
    ({ q with records := q.records ++ [r] } : ReportQueue).verdicts ≤ q.verdicts + 1 := by
  unfold verdicts
  simp only [List.filter_append, List.length_append]
  have := List.length_filter_le (fun h : Held => h.record.isVerdict) [r]
  simp only [List.length_cons, List.length_nil] at this
  omega

theorem verdicts_append_reply (q : ReportQueue) (d : Addr) (r : Reply) :
    ({ q with records := q.records ++ [⟨d, .reply r⟩] } : ReportQueue).verdicts = q.verdicts := by
  simp [verdicts, Record.isVerdict]

theorem verdicts_append_marker (q : ReportQueue) (d : Addr) (m : Marker) :
    ({ q with records := q.records ++ [⟨d, .marker m⟩] } : ReportQueue).verdicts = q.verdicts := by
  simp [verdicts, Record.isVerdict]

theorem verdicts_le_length (q : ReportQueue) : q.verdicts ≤ q.records.length := List.length_filter_le _ _

theorem verdicts_tail (q : ReportQueue) :
    ({ q with records := q.records.tail } : ReportQueue).verdicts ≤ q.verdicts := by
  unfold verdicts
  cases q.records with
  | nil => simp
  | cons a l =>
    simp only [List.tail_cons, List.filter_cons]
    split <;> simp

theorem reset_ok : reset.ok := by
  refine ⟨?_, ?_, ?_, ?_⟩ <;> simp [reset, verdicts]

/-- An empty waiting order, from a place being free. -/
theorem ok.waiting_nil {q : ReportQueue} (h : q.ok) (hp : q.records.length < 64) : q.waiting = [] := by
  by_cases hw : q.waiting = []
  · exact hw
  · exact absurd (h.2.2.1 hw) (by omega)

theorem ok.enter_reply {q : ReportQueue} (h : q.ok) (hp : q.records.length < 64) (d : Addr) (r : Reply) :
    (q.enter ⟨d, .reply r⟩).ok := by
  refine ⟨?_, ?_, ?_, h.2.2.2⟩
  · simp [enter]; omega
  · have := verdicts_append_reply q d r
    simpa [enter, this] using h.2.1
  · intro hw; exact absurd (h.waiting_nil hp) hw

theorem ok.enter_marker {q : ReportQueue} (h : q.ok) (hp : q.records.length < 64) (d : Addr) (m : Marker) :
    (q.enter ⟨d, .marker m⟩).ok := by
  refine ⟨?_, ?_, ?_, h.2.2.2⟩
  · simp [enter]; omega
  · have := verdicts_append_marker q d m
    simpa [enter, this] using h.2.1
  · intro hw; exact absurd (h.waiting_nil hp) hw

theorem ok.with_waiting {q : ReportQueue} (h : q.ok) (w : List Waiting) (hf : q.records.length = 64) :
    ({ q with waiting := w } : ReportQueue).ok := ⟨h.1, h.2.1, fun _ => hf, h.2.2.2⟩

theorem ok.full {q : ReportQueue} (h : q.ok) (hp : ¬ q.records.length < 64) : q.records.length = 64 := by
  have := h.1; omega

theorem ok.wait {q : ReportQueue} (h : q.ok) (hp : ¬ q.records.length < 64) (w : Waiting) : (q.wait w).ok :=
  h.with_waiting _ (h.full hp)

theorem ok.filter_waiting {q : ReportQueue} (h : q.ok) (p : Waiting → Bool) :
    ({ q with waiting := q.waiting.filter p } : ReportQueue).ok := by
  refine ⟨h.1, h.2.1, fun hw => h.2.2.1 ?_, h.2.2.2⟩
  intro hn; exact hw (by simp [hn])

theorem placeFree_iff (q : ReportQueue) : q.placeFree = true ↔ q.records.length < 64 := by
  show decide (q.records.length < 64) = true ↔ _
  exact decide_eq_true_iff

/-- An offered marker leaves the queue sound (R152, R156). -/
theorem ok.offerMarker {q : ReportQueue} (h : q.ok) (d : Addr) (m : Marker) : (q.offerMarker d m).ok := by
  unfold ReportQueue.offerMarker
  split
  · exact h.enter_marker ((placeFree_iff q).1 ‹_›) d m
  · have hp : ¬ q.records.length < 64 := fun hh => ‹¬ _› ((placeFree_iff q).2 hh)
    split
    · exact h.with_waiting _ (h.full hp)
    · exact h.wait hp _

/-- An offered BUSY reply leaves the queue sound (R155). -/
theorem ok.offerBusy {q : ReportQueue} (h : q.ok) (d : Addr) (r : Reply) : (q.offerBusy d r).ok := by
  unfold ReportQueue.offerBusy
  split
  · exact h.enter_reply ((placeFree_iff q).1 ‹_›) d r
  · exact h

/-- The entry of a verdict that has room leaves the queue sound (R152, R154). -/
theorem ok.enterVerdict {q : ReportQueue} (h : q.ok) (hr : q.roomForVerdict = true) (d : Addr) (v : Verdict) :
    (q.enterVerdict d v).ok := by
  have hlt : q.records.length < 60 := of_decide_eq_true hr
  refine ⟨?_, ?_, ?_, ?_⟩
  · simp [ReportQueue.enterVerdict, enter]; omega
  · have h1 := verdicts_append q ⟨d, .verdict { v with dropped := if q.dropCount = 0 then none else some q.dropCount }⟩
    have h2 := q.verdicts_le_length
    simp only [ReportQueue.enterVerdict, enter, verdicts] at h1 h2 ⊢
    omega
  · intro hw; exact absurd (h.waiting_nil (by omega)) hw
  · simp [ReportQueue.enterVerdict]

/-- The refusal of a verdict leaves the queue sound (R153). -/
theorem ok.refuseVerdict {q : ReportQueue} (h : q.ok) : q.refuseVerdict.ok :=
  ⟨h.1, h.2.1, h.2.2.1, Nat.min_le_left _ _⟩

/-- The head leaving a queue with nothing waiting (R158). -/
theorem ok.tail_nil {q : ReportQueue} (h : q.ok) (hw : q.waiting = []) :
    ({ q with records := q.records.tail } : ReportQueue).ok := by
  refine ⟨?_, ?_, fun hn => absurd hw hn, h.2.2.2⟩
  · have := h.1; simp; omega
  · exact Nat.le_trans q.verdicts_tail h.2.1

/-- The head leaving a full queue and a reply or marker entering behind (R157). -/
theorem ok.tail_enter {q : ReportQueue} (h : q.ok) (hw : q.waiting ≠ []) (r : Held) (w : List Waiting)
    (hr : ∀ l : List Held, ({ q with records := l ++ [r] } : ReportQueue).verdicts
      = ({ q with records := l } : ReportQueue).verdicts) :
    ({ q with records := q.records.tail ++ [r], waiting := w } : ReportQueue).ok := by
  have h64 := h.2.2.1 hw
  have hl : (q.records.tail ++ [r]).length = 64 := by simp; omega
  refine ⟨by simp only [hl]; omega, ?_, fun _ => hl, h.2.2.2⟩
  have h1 := hr q.records.tail
  have h2 := q.verdicts_tail
  have h3 := h.2.1
  simp only [verdicts] at h1 h2 h3 ⊢
  omega

end Sys2Proof.Machine.ReportQueue
end

