-- ==== Sys2Proof/Laws/Requests.lean ====
section
/-! SUPPORT. What the arrival of a request does, said once: which ports hear it, what is answered BUSY or BAD_REQUEST,
and what its reply does to the Report Queue and the request buffer. -/

namespace Sys2Proof.Machine

namespace State

/-- A reply enters or waits, and the request buffer follows (R155, R167). -/
theorem answer_spec (s : State) (r : Request) (st : Status) (d : List Byte) :
    s.answer r st d =
      { s with
        rep := s.rep.withReply r st d
        mgmt := { s.mgmt with request := if s.rep.records.length < 64 then none else s.mgmt.request } } := by
  unfold State.answer ReportQueue.withReply ReportQueue.placeFree Config.reportRecords
  by_cases h : s.rep.records.length < 64 <;>
    simp [h, ReportQueue.enter, ReportQueue.wait, State.setRep, State.endRequest, State.setMgmt]

/-- The reply of a request just taken. -/
theorem answer_taken (s : State) (r : Request) (st : Status) (d : List Byte) :
    (s.taken r).answer r st d = s.answered r st d := by
  rw [answer_spec]
  rfl

/-- A frame Port C hears is handled in the state with Port C's ports as they have heard it. -/
theorem received_hears (s : State) (h : s.hearsOnC) (f : State → State) :
    s.received .c f = f { s with links := s.links.heardOnC } := by
  obtain ⟨hp, hm, hu⟩ := h
  unfold State.received
  rcases hu with hu | hu <;>
    simp [State.isHeld, hp, State.portDisabled, State.port, hu, hm, State.modPort, State.setPort, State.setLinks,
      State.enterUp, State.setOwed, PortState.goodInUp, PortState.enterUp, Links.heardOnC, PortState.intoUp]

/-- A request that finds the buffer empty and is well formed in its envelope acts (R167, R168). -/
theorem requestArrives_ready (s : State) (h : s.hearsOnC) (hr : s.mgmt.request = none) (r : Request) (act : Action)
    (hs : r.source ≠ 63) (hl : r.params.length ≤ 238) (he : envelopeOk r.code r.params = true) :
    s.requestArrives r act = act r (s.taken r) := by
  unfold State.requestArrives
  rw [received_hears s h]
  have hl' : ¬ 238 < r.params.length := by omega
  simp only [State.requestHandled, hl', State.giveRequest, hs, State.takeRequest, hr, State.beginRequest, he,
    State.setMgmt, if_false, if_true, Option.isSome_none, Bool.false_eq_true]
  rfl

/-- A request malformed in its envelope is answered BAD_REQUEST (R24, R168). -/
theorem requestArrives_malformed (s : State) (h : s.hearsOnC) (hr : s.mgmt.request = none) (r : Request) (act : Action)
    (hs : r.source ≠ 63) (hl : r.params.length ≤ 238) (he : envelopeOk r.code r.params = false) :
    s.requestArrives r act = s.answered r .badRequest [] := by
  unfold State.requestArrives
  rw [received_hears s h]
  have hl' : ¬ 238 < r.params.length := by omega
  simp only [State.requestHandled, hl', State.giveRequest, hs, State.takeRequest, hr, State.beginRequest, he,
    State.setMgmt, if_false, Option.isSome_none, Bool.false_eq_true]
  exact answer_taken s r .badRequest []

/-- A request that finds another in progress is answered BUSY (R155, R167). -/
theorem requestArrives_busy (s : State) (h : s.hearsOnC) (q r : Request) (act : Action)
    (hr : s.mgmt.request = some q) (hs : r.source ≠ 63) (hl : r.params.length ≤ 238) :
    s.requestArrives r act =
      ({ s with links := s.links.heardOnC } : State).answerBusy r := by
  unfold State.requestArrives
  rw [received_hears s h]
  have hl' : ¬ 238 < r.params.length := by omega
  simp only [State.requestHandled, hl', State.giveRequest, hs, State.takeRequest, hr, if_false, Option.isSome_some,
    if_true]

end State
end Sys2Proof.Machine
end

