-- ==== Sys2Proof/Laws/Sound.lean ====
section
/-! SUPPORT. Every operation keeps `State.Sound`: the Report Queue, the Event Dispatcher, ALERT_N and the forward buffers
as their rules keep them. One lemma per operation, in the order of the files that define them. -/

namespace Sys2Proof.Machine

theorem foldl_keeps {α β : Type} {P : α → Prop} {f : α → β → α} (hf : ∀ a b, P a → P (f a b)) :
    ∀ (l : List β) (a : α), P a → P (l.foldl f a)
  | [], _, h => h
  | b :: l, a, h => foldl_keeps hf l (f a b) (hf a b h)

theorem State.isUp_c (s : State) : s.isUp .c = false ↔ s.links.c.link ≠ .up := by
  show (s.links.c.link == LinkState.up) = false ↔ _
  exact beq_eq_false_iff_ne

namespace State.Sound

variable {s : State}

/-! ## Updates -/

theorem setPending (h : s.Sound) (x : List Instr) : (s.setPending x).Sound := ⟨h.rep, h.disp, h.alert, h.forward⟩
theorem setSources (h : s.Sound) (x : Vector SourceEntry 16) : (s.setSources x).Sound :=
  ⟨h.rep, h.disp, h.alert, h.forward⟩
theorem setAna (h : s.Sound) (x : Analysis) : (s.setAna x).Sound := ⟨h.rep, h.disp, h.alert, h.forward⟩
theorem setChk (h : s.Sound) (x : CheckUnit) : (s.setChk x).Sound := ⟨h.rep, h.disp, h.alert, h.forward⟩
theorem setMgmt (h : s.Sound) (x : Management) : (s.setMgmt x).Sound := ⟨h.rep, h.disp, h.alert, h.forward⟩
theorem setSnap (h : s.Sound) (x : SnapshotUnit) : (s.setSnap x).Sound := ⟨h.rep, h.disp, h.alert, h.forward⟩
theorem setRep (h : s.Sound) {x : ReportQueue} (hx : x.ok) : (s.setRep x).Sound := ⟨hx, h.disp, h.alert, h.forward⟩
theorem setDisp (h : s.Sound) {x : Dispatcher} (hx : x.ok) : (s.setDisp x).Sound := ⟨h.rep, hx, h.alert, h.forward⟩

/-- The ports replaced, where Port C does not leave UP or the S-to-C buffer is empty. -/
theorem setLinks (h : s.Sound) {x : Links}
    (hx : x.c.link ≠ .up → s.links.c.link ≠ .up ∨ s.fwd.sToC = []) : (s.setLinks x).Sound := by
  refine ⟨h.rep, h.disp, h.alert, h.forward.1, h.forward.2.1, fun hu => ?_⟩
  have hn : x.c.link ≠ .up := (isUp_c _).1 hu
  rcases hx hn with hl | he
  · exact h.forward.2.2 ((isUp_c s).2 hl)
  · exact he

/-- The ports replaced, Port C in the link state it had. -/
theorem setLinks_same (h : s.Sound) {x : Links} (hx : x.c.link = s.links.c.link) : (s.setLinks x).Sound :=
  h.setLinks (fun hn => Or.inl (hx ▸ hn))

theorem setFwd (h : s.Sound) {x : Forwarding} (h1 : x.sToC.length ≤ 8) (h2 : x.cToS.length ≤ 4)
    (h3 : s.links.c.link ≠ .up → x.sToC = []) : (s.setFwd x).Sound :=
  ⟨h.rep, h.disp, h.alert, h1, h2, fun hu => h3 ((isUp_c _).1 hu)⟩

/-- The forward buffers unchanged, the arbiter's own items replaced. -/
theorem setFwd_same (h : s.Sound) {x : Forwarding} (h1 : x.sToC = s.fwd.sToC) (h2 : x.cToS = s.fwd.cToS) :
    (s.setFwd x).Sound :=
  h.setFwd (h1 ▸ h.forward.1) (h2 ▸ h.forward.2.1) (fun hn => h1 ▸ h.forward.2.2 ((isUp_c s).2 hn))

theorem setPort_s (h : s.Sound) (x : PortState) : (s.setPort .s x).Sound := h.setLinks_same rfl

theorem setPort_c (h : s.Sound) {x : PortState} (hx : x.link ≠ .up → s.links.c.link ≠ .up ∨ s.fwd.sToC = []) :
    (s.setPort .c x).Sound := h.setLinks hx

/-- A port changed, Port C not leaving UP. -/
theorem modPort (h : s.Sound) (p : Port) {f : PortState → PortState}
    (hf : (f s.links.c).link ≠ .up → s.links.c.link ≠ .up ∨ s.fwd.sToC = []) : (s.modPort p f).Sound := by
  cases p
  · exact h.setPort_s _
  · exact h.setPort_c hf

/-- A port changed with its link state kept. -/
theorem modPort_same (h : s.Sound) (p : Port) {f : PortState → PortState} (hf : ∀ x, (f x).link = x.link) :
    (s.modPort p f).Sound := h.modPort p (fun hn => Or.inl (hf _ ▸ hn))

/-- The latches replaced and ALERT_N brought up to date (R118). -/
theorem setLatches_refresh (h : s.Sound) (x : Vector (Option Diagnosis) 8) : (s.setLatches x).refreshAlert.Sound :=
  ⟨h.rep, h.disp, rfl, h.forward⟩

/-! ## Events -/

theorem raise (h : s.Sound) {k : EventKind} (hk : k.detailKind = none) : (s.raise k).Sound := h.setDisp (h.disp.raise hk)
theorem raiseDetail (h : s.Sound) (k : DetailKind) (e : Detail) : (s.raiseDetail k e).Sound :=
  h.setDisp (h.disp.raiseDetail k e)

theorem select (h : s.Sound) : (Machine.select s).Sound := by
  unfold Machine.select
  split
  · split
    · exact h.setDisp (h.disp.dispatch _ _)
    · exact h
  · exact h

/-! ## Reports -/

theorem offerMarker (h : s.Sound) (m : Marker) : (s.offerMarker m).Sound := h.setRep (h.rep.offerMarker _ m)
theorem endRequest (h : s.Sound) : s.endRequest.Sound := h.setMgmt _

theorem answer (h : s.Sound) (r : Request) (st : Status) (data : List Byte) : (s.answer r st data).Sound := by
  unfold State.answer
  dsimp only
  split
  · exact (h.setRep (h.rep.enter_reply ((ReportQueue.placeFree_iff _).1 ‹_›) _ _)).endRequest
  · exact h.setRep (h.rep.wait (fun hh => ‹¬ _› ((ReportQueue.placeFree_iff _).2 hh)) _)

theorem answerBusy (h : s.Sound) (r : Request) : (s.answerBusy r).Sound := h.setRep (h.rep.offerBusy _ _)

theorem dropHead (h : s.Sound) : s.dropHead.Sound := by
  unfold State.dropHead admitWaiting
  simp only [setRep_rep]
  split
  · exact h.setRep (h.rep.tail_nil ‹_›)
  next d r rest hw =>
    have hne : s.rep.waiting ≠ [] := by simp [hw]
    exact (Sound.setRep (h.setRep (x := s.rep) h.rep)
      (h.rep.tail_enter hne ⟨d, .reply r⟩ rest (fun l => ReportQueue.verdicts_append_reply { s.rep with records := l } d r))).setMgmt _
  next m rest hw =>
    have hne : s.rep.waiting ≠ [] := by simp [hw]
    exact Sound.setRep (h.setRep (x := s.rep) h.rep)
      (h.rep.tail_enter hne ⟨_, .marker m⟩ rest (fun l => ReportQueue.verdicts_append_marker { s.rep with records := l } _ m))

/-! ## Checks, latches, snapshot -/

theorem setLimitStates (h : s.Sound) (g : Group) (x : Vector LimitState 96) : (s.setLimitStates g x).Sound := by
  unfold State.setLimitStates
  split <;> exact h.setChk _
theorem setVector (h : s.Sound) (g : Group) (v : Half) : (s.setVector g v).Sound := h.setChk _
theorem refreshVector (h : s.Sound) (g : Group) : (s.refreshVector g).Sound := h.setVector _ _
theorem clearChecks (h : s.Sound) (g : Group) : (s.clearChecks g).Sound := (h.setLimitStates _ _).setVector _ _
theorem setLatch (h : s.Sound) (g : Group) (d : Option Diagnosis) : (s.setLatch g d).Sound := h.setLatches_refresh _

theorem abortSnapshot (h : s.Sound) (g : Group) : (s.abortSnapshot g).Sound := by
  unfold State.abortSnapshot
  split
  · split
    · exact (h.setSnap _).offerMarker _
    · exact h
  · exact h
  · exact h

/-! ## Windows -/

theorem modGroup (h : s.Sound) (g : Group) (f : GroupCtx → GroupCtx) : (s.modGroup g f).Sound := h.setAna _
theorem setDescState (h : s.Sound) (w : WinRef) (st : DescState) : (s.setDescState w st).Sound := h.modGroup _ _

theorem engineTake (h : s.Sound) : s.engineTake.Sound := by
  unfold State.engineTake
  split
  · exact (h.setDescState _ _).setAna _
  · exact h

theorem freeDesc (h : s.Sound) (w : WinRef) : (s.freeDesc w).Sound := h.modGroup _ _

theorem settle (h : s.Sound) (w : WinRef) : (s.settle w).Sound := by
  unfold State.settle
  split
  · exact ((h.setDescState _ _).setAna _).engineTake
  · exact (h.freeDesc _).raise rfl

theorem settleNow (h : s.Sound) (g : Group) : (s.settleNow g).Sound := by
  unfold State.settleNow
  split
  · exact h.settle _
  · exact h

theorem judgeSettlement (h : s.Sound) (g : Group) : (s.judgeSettlement g).Sound := by
  unfold State.judgeSettlement
  dsimp only
  split
  · exact h
  · split
    · exact h.settle _
    · exact h

theorem discardOpen (h : s.Sound) (g : Group) : (s.discardOpen g).Sound := by
  unfold State.discardOpen
  split
  · exact h.freeDesc _
  · exact h

theorem withdrawOldest (h : s.Sound) (g : Group) : (s.withdrawOldest g).Sound := by
  unfold State.withdrawOldest
  split
  · exact ((h.freeDesc _).setAna _).raise rfl
  · exact h

theorem openWindow (h : s.Sound) (g : Group) (t : Tick) : (s.openWindow g t).Sound := by
  unfold State.openWindow
  dsimp only
  have h1 : (if ((s.group g).descIn .free).isNone then s.withdrawOldest g else s).Sound := by
    split
    · exact h.withdrawOldest g
    · exact h
  split
  · exact h1.modGroup _ _
  · exact h1

theorem switchGroup (h : s.Sound) (g : Group) : (s.switchGroup g).Sound := by
  unfold State.switchGroup
  split
  · exact h
  · exact (((((h.modGroup _ _).setMgmt _).clearChecks g).setLatch g none).setAna _).abortSnapshot g

theorem takeSeekOrOff (h : s.Sound) (g : Group) : (s.takeSeekOrOff g).Sound := h.modGroup _ _

theorem boundarySwitch (h : s.Sound) (g : Group) : (s.boundarySwitch g).Sound := by
  unfold State.boundarySwitch
  split
  · dsimp only
    split
    · exact h.switchGroup g
    · exact ((h.switchGroup g).settleNow g).modGroup _ _
  · exact h

theorem boundary (h : s.Sound) (g : Group) (t : Tick) : (s.boundary g t).Sound := by
  unfold State.boundary
  dsimp only
  split
  · exact ((h.modGroup _ _).boundarySwitch g).openWindow g t
  · exact (h.modGroup _ _).boundarySwitch g

theorem enterBlind (h : s.Sound) (g : Group) : (s.enterBlind g).Sound := by
  unfold State.enterBlind
  dsimp only
  have h2 := (((((h.raise (k := .groupBlind) rfl).modGroup g (fun x => { x with state := .blind })).discardOpen
    g).settleNow g).modGroup g (fun x => { x with arm := false }))
  split
  · exact (h2.switchGroup g).takeSeekOrOff g
  · exact h2

theorem enterQuiesced (h : s.Sound) (g : Group) : (s.enterQuiesced g).Sound := by
  unfold State.enterQuiesced
  dsimp only
  have h2 := (((h.modGroup g (fun x =>
    { x with state := .quiesced, frontiers := Vector.replicate 8 none, lastRef := none, arm := false })).clearChecks
      g).setLatch g none).offerMarker (.groupQuiesced g)
  split
  · exact h2.switchGroup g
  · exact h2

theorem judgeQuiesced (h : s.Sound) (g : Group) : (s.judgeQuiesced g).Sound := by
  unfold State.judgeQuiesced
  split
  · exact h.enterQuiesced g
  · exact h

theorem rejectWindow (h : s.Sound) (g : Group) (d : Desc) (t : Tick) : (s.rejectWindow g d t).Sound := by
  unfold State.rejectWindow
  dsimp only
  have h2 := ((h.freeDesc ⟨g, d⟩).raiseDetail .windowRejected (.windowRejected g (s.group g).descs[d].number)).modGroup
    g (fun x => { x with rejects := x.rejects + 1 })
  split
  · exact h2.boundary g t
  · exact h2.enterBlind g

theorem closeWindow (h : s.Sound) (g : Group) (d : Desc) (t : Tick) : (s.closeWindow g d t).Sound := by
  unfold State.closeWindow
  dsimp only
  split
  · exact (((h.settleNow g).freeDesc _).boundary g t).judgeSettlement g
  · exact (((h.settleNow g).modGroup _ _).boundary g t).judgeSettlement g

theorem armBy (h : s.Sound) (g : Group) (p : Plan) (v : Int) : (s.armBy g p v).Sound := by
  unfold State.armBy
  split
  · exact h.modGroup _ _
  · exact h

theorem judgeSeeking (h : s.Sound) (g : Group) (p : Plan) (t : Tick) (v : Int) : (s.judgeSeeking g p t v).Sound := by
  unfold State.judgeSeeking
  split
  · exact (h.openWindow g t).modGroup _ _
  · exact h.armBy g p v

theorem judgeTracking (h : s.Sound) (g : Group) (p : Plan) (d : Desc) (t : Tick) (v : Int) :
    (s.judgeTracking g p d t v).Sound := by
  unfold State.judgeTracking
  dsimp only
  split
  · exact h.rejectWindow g d t
  · split
    · split
      · exact h.closeWindow g d t
      · exact h
    · exact h.armBy g p v

theorem takeReference (h : s.Sound) (g : Group) (t : Tick) (v : Int) : (s.takeReference g t v).Sound := by
  unfold State.takeReference
  dsimp only
  have h1 : (if (s.group g).state == .blind then s.modGroup g GroupCtx.enterSeeking else s).Sound := by
    split
    · exact h.modGroup _ _
    · exact h
  generalize (if (s.group g).state == .blind then s.modGroup g GroupCtx.enterSeeking else s) = s1 at h1 ⊢
  split
  · refine Sound.modGroup ?_ _ _
    split
    · exact h1.judgeSeeking g _ t v
    · split
      · exact h1.judgeTracking g _ _ t v
      · exact h1.armBy g _ v
    · exact h1
    · exact h1
    · exact h1
    · exact h1
  · exact h1

theorem takeSample (h : s.Sound) (g : Group) (c : Chan) (t : Tick) (v : Int) : (s.takeSample g c t v).Sound := by
  unfold State.takeSample
  dsimp only
  split
  · exact h
  · refine Sound.judgeSettlement (Sound.modGroup ?_ _ _) g
    split
    · exact h.takeReference g t v
    · exact h

theorem loseReference (h : s.Sound) (gone : Node → Bool) (g : Group) : (s.loseReference gone g).Sound := by
  unfold State.loseReference
  dsimp only
  split
  · split
    · exact h.enterBlind g
    · exact h
  · split
    · exact h.enterBlind g
    · exact h

theorem nodesLost (h : s.Sound) (gone : Node → Bool) : (s.nodesLost gone).Sound :=
  foldl_keeps (fun _ g ha => ha.loseReference gone g) all8 s h

theorem quiesce (h : s.Sound) (g : Group) : (s.quiesce g).Sound := by
  unfold State.quiesce
  dsimp only
  split
  · exact h
  · refine Sound.modGroup ?_ _ _
    split
    · exact h
    · exact (h.discardOpen g).settleNow g

theorem resume (h : s.Sound) (g : Group) : (s.resume g).Sound := by
  unfold State.resume
  split
  · exact h.takeSeekOrOff g
  · exact h

/-! ## Links -/

theorem setOwed (h : s.Sound) (b : Bool) : (s.setOwed b).Sound := h.setLinks_same rfl

theorem enterUp (h : s.Sound) (p : Port) : (s.enterUp p).Sound := by
  unfold State.enterUp
  have h1 : (s.modPort p PortState.enterUp).Sound := h.modPort p (fun hn => absurd rfl hn)
  cases p
  · exact h1
  · exact h1.setOwed true

theorem staleWhere (h : s.Sound) (p : SourceEntry → Bool) : (s.staleWhere p).Sound := by
  unfold State.staleWhere
  dsimp only
  split
  · exact ((h.setSources _).raise (k := .sourceLost) rfl).nodesLost _
  · exact h

theorem leaveUp (h : s.Sound) (p : Port) : (s.leaveUp p).Sound := by
  unfold State.leaveUp
  dsimp only
  have h1 : ((s.raise .linkDown).modPort p (fun x => { x with tx := none })).Sound :=
    (h.raise (k := .linkDown) rfl).modPort_same p (fun _ => rfl)
  cases p
  · exact h1.staleWhere _
  · refine Sound.setOwed (Sound.setFwd h1 ?_ ?_ ?_) false
    · exact Nat.zero_le _
    · exact h1.forward.2.1
    · exact fun _ => rfl

/-- Port C having left UP has emptied the S-to-C forward buffer (R27). -/
theorem leaveUp_c_sToC (s : State) : (s.leaveUp .c).fwd.sToC = [] := rfl

/-! ## Control and resets -/

theorem judgeHold (h : s.Sound) : s.judgeHold.Sound := by
  unfold State.judgeHold
  split
  · split
    · exact (h.setMgmt _).offerMarker _
    · exact h
  · exact h

theorem endHold (h : s.Sound) (x : Hold) (c : HoldCause) : (s.endHold x c).Sound := by
  unfold State.endHold
  dsimp only
  exact Sound.offerMarker ((h.setMgmt _).setRep (h.rep.filter_waiting _)) _

theorem adoptStaging (h : s.Sound) (c : Commit) : (s.adoptStaging c).Sound := (h.setMgmt _).setChk _

/-- Port S made DOWN, or brought from DOWN to SEEK, changes nothing of Port C. -/
theorem modPort_s (h : s.Sound) (f : PortState → PortState) : (s.modPort .s f).Sound := h.setPort_s _

theorem applyEnable (h : s.Sound) (was : Bool) : (s.applyEnable was).Sound := by
  unfold State.applyEnable
  dsimp only
  split
  · have h1 : (if s.isUp .s then s.leaveUp .s else s).Sound := by
      split
      · exact h.leaveUp .s
      · exact h
    have h2 := h1.modPort_s (fun x => x.enterDown none)
    exact h2.setFwd h2.forward.1 (Nat.zero_le _) (fun hn => h2.forward.2.2 ((isUp_c _).2 hn))
  · split
    · exact h.modPort_s _
    · exact h

theorem judgeStaleTimers (h : s.Sound) : s.judgeStaleTimers.Sound := h.staleWhere _

theorem owePresence (h : s.Sound) (was : Addr) : (s.owePresence was).Sound := by
  unfold State.owePresence
  split
  · exact h.setOwed true
  · exact h

theorem applySettings (h : s.Sound) (old : Settings) : (s.applySettings old).Sound :=
  ((h.applyEnable _).judgeStaleTimers).owePresence _

theorem complete (h : s.Sound) : s.complete.Sound := by
  unfold State.complete
  split
  · exact ((h.adoptStaging _).offerMarker _).applySettings _
  · exact h

theorem raiseDeferred (h : s.Sound) (b : Bool) : (s.raiseDeferred b).Sound := by
  unfold State.raiseDeferred
  split
  · exact h.raise rfl
  · exact h

end State.Sound

theorem anyTrip_none : anyTrip (Vector.replicate 8 none) = false := by decide

/-- A full reset leaves every block sound, whatever came before. -/
theorem State.fullReset_sound (pending : List Instr) (straps : BitVec 3) (mask : Option Nat) (cause : ResetCause) :
    (State.fullReset pending straps mask cause).Sound where
  rep := ReportQueue.reset_ok
  disp := Dispatcher.reset_ok
  alert := by
    show false = (!false && anyTrip (Vector.replicate 8 none))
    rw [anyTrip_none]; rfl
  forward := ⟨Nat.zero_le _, Nat.zero_le _, fun _ => rfl⟩

namespace State.Sound

variable {s : State}

theorem takeFullReset (s : State) (c : ResetCause) : (s.takeFullReset c).Sound :=
  Sound.raiseDeferred (State.fullReset_sound _ _ _ _) _

theorem switchRemaining (h : s.Sound) : s.switchRemaining.Sound := by
  unfold State.switchRemaining
  refine foldl_keeps (P := State.Sound) (fun a g ha => ?_) all8 s h
  split
  · exact (ha.switchGroup g).setMgmt _
  · exact ha

/-- An Analysis Restart leaves the blocks it clears sound. -/
theorem restartBlocks (s : State) : s.restartBlocks.Sound where
  rep := ReportQueue.reset_ok
  disp := Dispatcher.ok.restart _
  alert := by
    show false = (!s.isHeld && anyTrip (Vector.replicate 8 none))
    rw [anyTrip_none, Bool.and_false]
  forward := ⟨Nat.zero_le _, Nat.zero_le _, fun _ => rfl⟩

theorem answerRestart (h : s.Sound) (r : Option Request) : (s.answerRestart r).Sound := by
  unfold State.answerRestart
  split
  · exact h.answer _ _ _
  · exact h

theorem takeRestart (s : State) (r : Option Request) : (s.takeRestart r).Sound := by
  unfold State.takeRestart
  dsimp only
  split
  · exact Sound.raiseDeferred (Sound.answerRestart (Sound.offerMarker (Sound.restartBlocks _) _) _) _
  · exact Sound.raiseDeferred (Sound.answerRestart (Sound.restartBlocks _) _) _

theorem takeMarkReset (s : State) (m : MarkReset) : (s.takeMarkReset m).Sound := by
  unfold State.takeMarkReset
  split
  · exact Sound.takeFullReset _ _
  · exact Sound.takeRestart _ _

theorem resetIfCutOff (h : s.Sound) : s.resetIfCutOff.Sound := by
  unfold State.resetIfCutOff
  split
  · split
    · exact h
    · exact Sound.takeMarkReset _ _
  · split
    · exact Sound.takeRestart _ _
    · exact h

theorem finish (h : s.Sound) : s.finish.Sound := by
  unfold State.finish
  dsimp only
  refine Sound.resetIfCutOff ?_
  split
  · exact h.judgeHold.complete.judgeHold
  · exact h.judgeHold

theorem acceptSwitch (h : s.Sound) (g : Group) : (s.acceptSwitch g).Sound := by
  unfold State.acceptSwitch
  split
  · exact (h.switchGroup g).takeSeekOrOff g
  · exact (h.switchGroup g).takeSeekOrOff g
  · exact (h.switchGroup g).takeSeekOrOff g
  · exact h.switchGroup g
  · exact h
  · exact h

theorem acceptCommit (h : s.Sound) : s.acceptCommit.Sound := by
  unfold State.acceptCommit
  dsimp only
  exact foldl_keeps (P := State.Sound) (fun _ g ha => ha.acceptSwitch g) all8 _ (Sound.setChk (Sound.setMgmt h _) _)

theorem forceSwitch (h : s.Sound) (g : Group) : (s.forceSwitch g).Sound := by
  unfold State.forceSwitch
  split
  · split
    · exact ((h.discardOpen g).switchGroup g).takeSeekOrOff g
    · exact h.switchGroup g
  · exact h

theorem discardOld (h : s.Sound) (gen : Gen) (g : Group) : (State.discardOld gen s g).Sound := by
  unfold State.discardOld
  refine foldl_keeps (P := State.Sound) (fun a d ha => ?_) all3 s h
  dsimp only
  split
  · exact (ha.freeDesc _).setAna _
  · exact ha

theorem forceCommit (h : s.Sound) : s.forceCommit.Sound := by
  unfold State.forceCommit
  dsimp only
  refine foldl_keeps (P := State.Sound) (fun a g ha => ha.judgeQuiesced g) all8 _ (Sound.judgeHold (Sound.setMgmt ?_ _))
  refine Sound.raise (k := .commitForced) ?_ rfl
  refine foldl_keeps (P := State.Sound) (fun a g ha => ha.discardOld _ g) all8 _ ?_
  exact foldl_keeps (P := State.Sound) (fun a g ha => ha.forceSwitch g) all8 s h

/-! ## Snapshot and evaluation -/

theorem takeCapture (h : s.Sound) (a : Arming) (w : WinRef) (d : Descriptor) (o : WinOutcome) :
    (s.takeCapture a w d o).Sound := (h.setSnap _).offerMarker _

theorem tellSnapshot (h : s.Sound) (w : WinRef) (d : Descriptor) (o : WinOutcome) (a b : Bool) :
    (s.tellSnapshot w d o a b).Sound := by
  unfold State.tellSnapshot
  split
  · split
    · exact h.takeCapture _ _ _ _
    · exact h
  · exact h
  · exact h

theorem raiseAll (h : s.Sound) (l : Raisings) : (s.raiseAll l).Sound :=
  foldl_keeps (P := State.Sound) (fun _ r ha => ha.raiseDetail r.1 r.2) l s h

theorem stepLimits (h : s.Sound) (v : WindowView) (n : Half) : (s.stepLimits v n).Sound := by
  unfold State.stepLimits
  exact Sound.raiseAll (Sound.refreshVector (Sound.setLimitStates h _ _) _) _

theorem updateLatch (h : s.Sound) (g : Group) (n : Half) : (s.updateLatch g n).Sound := by
  unfold State.updateLatch
  split
  · split
    · exact h
    · exact (h.setLatch g _).raiseDetail _ _
  · exact (h.setLatch g _).raiseDetail _ _
  · exact (h.setLatch g _).raiseDetail _ _
  · exact h

theorem checkWindow (h : s.Sound) (v : WindowView) (n : Half) (o : WinOutcome) : (s.checkWindow v n o).Sound := by
  unfold State.checkWindow
  split
  · exact (h.stepLimits v n).updateLatch _ n
  · exact h

theorem offerVerdict (h : s.Sound) (v : Verdict) : (s.offerVerdict v).Sound := by
  unfold State.offerVerdict
  dsimp only
  split
  · exact (h.setRep (h.rep.enterVerdict ‹_› _ _)).setAna _
  · exact (h.setRep h.rep.refuseVerdict).raise rfl

theorem giveVerdict (h : s.Sound) (v : WindowView) (d : Descriptor) (o : WinOutcome) : (s.giveVerdict v d o).Sound := by
  unfold State.giveVerdict
  split
  · exact h.offerVerdict _
  · exact h

theorem release (h : s.Sound) (w : WinRef) : (s.release w).Sound :=
  ((((h.freeDesc w).setAna _).judgeHold).judgeQuiesced _).engineTake

theorem handOff (h : s.Sound) (w : WinRef) : (s.handOff w).Sound :=
  (((h.checkWindow _ _ _).giveVerdict _ _ _).tellSnapshot _ _ _ _ _).release w

theorem endEvaluation (h : s.Sound) : s.endEvaluation.Sound := by
  unfold State.endEvaluation
  split
  · exact (h.handOff _).finish
  · exact h

/-! ## Sources -/

theorem takeChannelSample (h : s.Sound) (x : ChannelSample) : (s.takeChannelSample x).Sound :=
  (h.takeSample _ _ _ _).finish

theorem deliver (h : s.Sound) (n : Node) (p : List Byte) : (s.deliver n p).Sound :=
  foldl_keeps (P := State.Sound) (fun _ x ha => ha.takeChannelSample x) _ s h

theorem setSource (h : s.Sound) (n : Node) (e : SourceEntry) : (s.setSource n e).Sound := h.setSources _

theorem reportGap (h : s.Sound) (n : Node) (q : Byte) (j : Judgement) : (s.reportGap n q j).Sound := by
  unfold State.reportGap
  split
  · exact h.raiseDetail _ _
  · exact h
  · exact h
  · exact h

theorem track (h : s.Sound) (n : Node) (q : Byte) (p : List Byte) : (s.track n q p).Sound := by
  unfold State.track
  dsimp only
  split
  · exact ((h.setSource _ _).reportGap _ _ _).deliver n p
  · exact (h.setSource _ _).reportGap _ _ _

theorem staleTimeout (h : s.Sound) (n : Node) : (s.staleTimeout n).Sound := by
  unfold State.staleTimeout
  split
  · exact (((h.setSource _ _).raise (k := .sourceLost) rfl).nodesLost _).finish
  · exact h

/-! ## Transmission -/

theorem setTx (h : s.Sound) (p : Port) (f : Option TxFrame) : (s.setTx p f).Sound := h.modPort_same p (fun _ => rfl)
theorem sendControl (h : s.Sound) (p : Port) : (s.sendControl p).Sound := h.modPort_same p (fun _ => rfl)

theorem handOut (h : s.Sound) (t : TxSort) (k : Byte) (d : Addr) (b : List Byte) : (s.handOut t k d b).Sound :=
  (h.setTx .c _).setFwd_same rfl rfl

theorem sendPresence (h : s.Sound) : s.sendPresence.Sound := (h.handOut _ _ _ _).setOwed false

theorem grantForward (h : s.Sound) : s.grantForward.Sound := by
  unfold State.grantForward
  split
  next f rest hq =>
    have h1 := h.setTx .c (some ⟨.forwarded, f⟩)
    refine h1.setFwd ?_ h1.forward.2.1 (fun hn => ?_)
    · have := h.forward.1; rw [hq] at this; simp at this ⊢; omega
    · have h2 := h1.forward.2.2 ((isUp_c _).2 hn)
      have h3 : s.fwd.sToC = [] := h2
      rw [hq] at h3
      exact absurd h3 (by simp)
  · exact h

theorem grantReport (h : s.Sound) : s.grantReport.Sound := by
  unfold State.grantReport
  split
  · exact Sound.dropHead (Sound.handOut (h.setFwd_same (x := { s.fwd with lastGranted := .report }) rfl rfl) _ _ _ _)
  · exact h

theorem handOver_ok {d : Dispatcher} (h : d.ok) (f : SlotFrame) : (d.handOver f).ok :=
  Dispatcher.ok_of_eq h rfl (fun j => by cases j <;> rfl)

theorem grantEvent (h : s.Sound) : s.grantEvent.Sound := by
  unfold State.grantEvent
  split
  · exact Sound.setDisp
      (Sound.handOut (h.setFwd_same (x := { s.fwd with lastGranted := .event }) rfl rfl) _ _ _ _) (handOver_ok h.disp _)
  · exact h

theorem grant (h : s.Sound) : s.grant.Sound := by
  unfold State.grant
  split
  · exact h.grantForward
  · exact h.grantReport
  · exact h.grantEvent
  · exact h.sendControl .c

theorem nextC (h : s.Sound) : s.nextC.Sound := by
  unfold State.nextC
  split
  · split
    · exact h.sendPresence
    · split
      · exact h.sendControl .c
      · exact h.grant
  · exact h.sendControl .c

theorem nextS (h : s.Sound) : s.nextS.Sound := by
  unfold State.nextS
  split
  · split
    next f rest hq =>
      have h1 := h.setTx .s (some ⟨.forwarded, f⟩)
      refine h1.setFwd h1.forward.1 ?_ (fun hn => h1.forward.2.2 ((isUp_c _).2 hn))
      have := h.forward.2.1; rw [hq] at this; simp at this ⊢; omega
    · exact h.sendControl .s
  · exact h.sendControl .s

theorem nextFrame (h : s.Sound) (p : Port) : (s.nextFrame p).Sound := by
  cases p
  · exact h.nextS
  · exact h.nextC

theorem afterMark (h : s.Sound) (m : Mark) (p : Port) : (s.afterMark m p).Sound := by
  cases m
  · exact h
  · exact h.nextFrame p

theorem markEnds (h : s.Sound) : s.markEnds.Sound := by
  unfold State.markEnds
  split
  · split
    · exact Sound.afterMark (Sound.takeMarkReset _ _) _ _
    · exact h
  · split
    · exact Sound.nextS (Sound.takeRestart _ _)
    · exact h

theorem endFrameC (h : s.Sound) : s.endFrameC.Sound := by
  unfold State.endFrameC
  split
  · exact h
  · split
    · exact h.markEnds
    · exact Sound.takeFullReset _ _
    · exact h.nextC
    · exact h.nextC
    · exact h.nextC
    · exact h.nextC
    · exact h.nextC

theorem endFrameS (h : s.Sound) : s.endFrameS.Sound := by
  unfold State.endFrameS
  split
  · exact h
  · split
    · exact h.markEnds
    · exact h.nextS

theorem endResetPartReply (h : s.Sound) : s.endResetPartReply.Sound := by
  unfold State.endResetPartReply
  split
  · exact Sound.takeFullReset _ _
  · exact h

/-! ## Reception -/

theorem afterLeaving (h : s.Sound) (b : Bool) : (s.afterLeaving b).Sound := by
  unfold State.afterLeaving
  split
  · exact Sound.takeFullReset _ _
  · exact h.finish

/-- A port that has left UP enters another link state. -/
theorem leaveUp_modPort (h : s.Sound) (p : Port) (f : PortState → PortState) : ((s.leaveUp p).modPort p f).Sound :=
  by
  cases p
  · exact (h.leaveUp .s).modPort_s f
  · exact (h.leaveUp .c).modPort .c (fun _ => Or.inr (leaveUp_c_sToC s))

theorem linkLoss (h : s.Sound) (p : Port) : (s.linkLoss p).Sound := (h.leaveUp_modPort p _).afterLeaving _
theorem partnerSeeks (h : s.Sound) (p : Port) : (s.partnerSeeks p).Sound := (h.leaveUp_modPort p _).afterLeaving _
theorem countBad (h : s.Sound) (p : Port) : (s.countBad p).Sound := h.modPort_same p (fun _ => rfl)

theorem badCheck (h : s.Sound) (p : Port) : (s.badCheck p).Sound := by
  unfold State.badCheck
  dsimp only
  split
  · exact h
  · split
    · split
      · refine Sound.linkLoss (Sound.modPort_same (h.countBad p) p ?_) p
        exact fun _ => rfl
      · exact (h.countBad p).modPort_same p (fun _ => rfl)
    · exact h.countBad p

theorem signalLost (h : s.Sound) (p : Port) : (s.signalLost p).Sound := by
  unfold State.signalLost
  split
  · exact h
  · split
    · exact h.linkLoss p
    · exact h

theorem refuseMark (h : s.Sound) : s.refuseMark.Sound := by
  unfold State.refuseMark
  split
  · exact h.setLinks_same rfl
  · exact h.raise rfl

theorem startMask (h : s.Sound) : s.startMask.Sound := h.setLinks_same rfl
theorem sendMark (h : s.Sound) (p : Port) (m : Mark) : (s.sendMark p m).Sound := h.setTx p _

theorem acceptMark (h : s.Sound) (p : Port) (m : Mark) : (s.acceptMark p m).Sound := by
  unfold State.acceptMark
  dsimp only
  split
  · exact (h.startMask.sendMark _ _).setLinks_same rfl
  · exact Sound.takeMarkReset _ _

theorem goodInUp_link (x : PortState) : x.goodInUp.link = x.link := by
  unfold PortState.goodInUp
  split <;> rfl

theorem goodInUp (h : s.Sound) (p : Port) : (s.modPort p PortState.goodInUp).Sound := h.modPort_same p goodInUp_link

theorem judgeMark (h : s.Sound) (p : Port) (m : Mark) : (s.judgeMark p m).Sound := by
  unfold State.judgeMark
  dsimp only
  split
  · exact (h.goodInUp p).acceptMark p m
  · exact (h.goodInUp p).refuseMark

theorem markArrives (h : s.Sound) (p : Port) (m : Mark) : (s.markArrives p m).Sound := by
  unfold State.markArrives
  split
  · exact h
  · exact h.judgeMark p m

/-- A port that is not UP changed in any way. -/
theorem modPort_notUp (h : s.Sound) (p : Port) (f : PortState → PortState) (hu : (s.port p).link ≠ .up) :
    (s.modPort p f).Sound := by
  cases p
  · exact h.modPort_s f
  · exact h.modPort .c (fun _ => Or.inl hu)

theorem phaseInConfirm (h : s.Sound) (p : Port) (v : Control) (hu : (s.port p).link = .confirm) :
    (s.phaseInConfirm p v).Sound := by
  have hn : (s.port p).link ≠ .up := by rw [hu]; decide
  unfold State.phaseInConfirm
  split
  · split
    · exact h
    · split
      · exact h.modPort_notUp p _ hn
      · exact h.modPort_notUp p _ hn
  · exact h.enterUp p
  · exact h.modPort_notUp p _ hn
  · exact h
  · exact h

theorem phaseInUp (h : s.Sound) (p : Port) (v : Control) : (s.phaseInUp p v).Sound := by
  unfold State.phaseInUp
  dsimp only
  split
  · exact (h.goodInUp p).partnerSeeks p
  · exact h.goodInUp p

theorem phaseArrives (h : s.Sound) (p : Port) (v : Control) : (s.phaseArrives p v).Sound := by
  unfold State.phaseArrives
  split
  next hu =>
    split
    · exact h.modPort_notUp p _ (by rw [hu]; decide)
    · exact h
  next hu =>
    split
    · exact h.modPort_notUp p _ (by rw [hu]; decide)
    · exact h
  next hu =>
    split
    · exact h.modPort_notUp p _ (by rw [hu]; decide)
    · exact h
  next hu => exact h.phaseInConfirm p v hu
  next hu => exact h.phaseInUp p v

theorem malformedControl (h : s.Sound) (p : Port) : (s.malformedControl p).Sound := by
  unfold State.malformedControl
  split
  · exact (h.goodInUp p).raise rfl
  · exact h

theorem linkControl (h : s.Sound) (p : Port) (b : List Byte) : (s.linkControl p b).Sound := by
  unfold State.linkControl
  split
  · exact h
  · split
    · exact h.malformedControl p
    · exact h.markArrives p _
    · exact h.phaseArrives p _

theorem atMinimum_up (x : PortState) : x.link = .up → (atMinimum x).link = .up := by
  intro hu
  unfold atMinimum
  dsimp only
  split
  · rw [hu]
  · exact hu

theorem minimumReached (h : s.Sound) (p : Port) : (s.minimumReached p).Sound := by
  unfold State.minimumReached
  split
  · exact h
  · refine h.modPort p (fun hn => Or.inl (fun hu => hn (atMinimum_up _ hu)))

theorem atDeadline_up (x : PortState) : x.link = .up → (atDeadline x).link = .up := by
  intro hu
  unfold atDeadline
  rw [hu]
  exact hu

theorem deadlineReached (h : s.Sound) (p : Port) : (s.deadlineReached p).Sound := by
  unfold State.deadlineReached
  split
  · exact h
  · exact h.modPort p (fun hn => Or.inl (fun hu => hn (atDeadline_up _ hu)))

theorem settleExpires (h : s.Sound) (p : Port) : (s.settleExpires p).Sound := by
  unfold State.settleExpires
  split
  · exact h.enterUp p
  · exact h

theorem retryStarts (h : s.Sound) (p : Port) : (s.retryStarts p).Sound := by
  unfold State.retryStarts
  split
  next hc =>
    refine h.modPort_notUp p _ (fun hu => ?_)
    rw [hu] at hc
    simp at hc
  · exact h

theorem maskExpires (h : s.Sound) : s.maskExpires.Sound := h.setLinks_same rfl

end State.Sound
end Sys2Proof.Machine
end

