-- ==== Sys2Proof/Laws/SoundRequests.lean ====
section
/-! SUPPORT. Every request's action, the Frame Classifier, the clock and the board's events keep `State.Sound`. -/

namespace Sys2Proof.Machine.State.Sound

variable {s : State}

/-! ## Requests -/

theorem writeEntries (h : s.Sound) (r : Request) (t : TableId) : (Machine.writeEntries r t s).Sound := by
  unfold Machine.writeEntries
  split
  · exact h.answer _ _ _
  · split
    · exact (h.setMgmt _).answer _ _ _
    · exact h.answer _ _ _

theorem doWriteStaging (h : s.Sound) (r : Request) : (Machine.doWriteStaging r s).Sound := by
  unfold Machine.doWriteStaging
  split
  · split
    · exact h.writeEntries r _
    · exact h.answer _ _ _
  · exact h.answer _ _ _

theorem doReadTable (h : s.Sound) (r : Request) : (Machine.doReadTable r s).Sound := by
  unfold Machine.doReadTable
  split
  · split
    · exact h.answer _ _ _
    · exact h.answer _ _ _
  · exact h.answer _ _ _

theorem doCopyActive (h : s.Sound) (r : Request) : (Machine.doCopyActive r s).Sound := by
  unfold Machine.doCopyActive
  split
  · exact h.answer _ _ _
  · exact (h.setMgmt _).answer _ _ _

theorem doCommit (h : s.Sound) (r : Request) : (Machine.doCommit r s).Sound := by
  unfold Machine.doCommit
  split
  · exact h.answer _ _ _
  · split
    · exact h.answer _ _ _
    · exact ((h.answer _ _ _).acceptCommit).finish

theorem doHold (h : s.Sound) (r : Request) : (Machine.doHold r s).Sound := by
  unfold Machine.doHold
  dsimp only
  split
  · exact h.answer _ _ _
  · split
    · exact h.answer _ _ _
    · exact ((h.setMgmt _).answer _ _ _).finish

theorem doRelease (h : s.Sound) (r : Request) : (Machine.doRelease r s).Sound := by
  unfold Machine.doRelease
  split
  · exact h.answer _ _ _
  · exact (h.answer _ _ _).endHold _ _

theorem takeQuiesce (h : s.Sound) (g : Group) : (Machine.takeQuiesce g s).Sound :=
  ((((h.abortSnapshot g).quiesce g).judgeHold).judgeQuiesced g).finish

theorem doQuiesceGroup (h : s.Sound) (r : Request) : (Machine.doQuiesceGroup r s).Sound := by
  unfold Machine.doQuiesceGroup
  split
  · exact h.answer _ _ _
  · split
    · exact h.answer _ _ _
    · exact (h.answer _ _ _).takeQuiesce _

theorem doResumeGroup (h : s.Sound) (r : Request) : (Machine.doResumeGroup r s).Sound := by
  unfold Machine.doResumeGroup
  split
  · exact h.answer _ _ _
  · split
    · exact (h.resume _).answer _ _ _
    · exact h.answer _ _ _

theorem doReadStatus (h : s.Sound) (r : Request) : (Machine.doReadStatus r s).Sound := h.answer _ _ _
theorem doReadSources (h : s.Sound) (r : Request) : (Machine.doReadSources r s).Sound := h.answer _ _ _
theorem doReadEvents (h : s.Sound) (r : Request) : (Machine.doReadEvents r s).Sound := h.answer _ _ _

theorem doReadGroup (h : s.Sound) (r : Request) : (Machine.doReadGroup r s).Sound := by
  unfold Machine.doReadGroup
  split
  · exact h.answer _ _ _
  · exact h.answer _ _ _

theorem propagateRestart (h : s.Sound) (r : Request) : (Machine.propagateRestart r s).Sound := by
  unfold Machine.propagateRestart
  dsimp only
  split
  · exact (h.startMask.sendMark _ _).setMgmt _
  · exact Sound.takeRestart _ _

theorem doRestartAnalysis (h : s.Sound) (r : Request) : (Machine.doRestartAnalysis r s).Sound := by
  unfold Machine.doRestartAnalysis
  split
  · exact h.answer _ _ _
  · exact h.propagateRestart r
  · exact Sound.takeRestart _ _

theorem doResetPart (h : s.Sound) (r : Request) : (Machine.doResetPart r s).Sound := by
  unfold Machine.doResetPart
  split
  · exact Sound.takeFullReset _ _
  · exact h.answer _ _ _

/-- A dispatcher with other mask, raw status or status is as sound as before. -/
theorem setFlags (h : s.Sound) {x : Dispatcher} (hp : x.pending = s.disp.pending) (hs : x.fifos = s.disp.fifos) :
    (s.setDisp x).Sound :=
  h.setDisp (Dispatcher.ok_of_eq h.disp hp (fun k => Dispatcher.stack_of_stacks hs k))

theorem doAckEvents (h : s.Sound) (r : Request) : (Machine.doAckEvents r s).Sound := by
  unfold Machine.doAckEvents
  exact Sound.answer (Sound.setFlags h (x := { s.disp with status := s.disp.status &&& ~~~r.kinds }) rfl rfl) _ _ _

theorem doClearRaw (h : s.Sound) (r : Request) : (Machine.doClearRaw r s).Sound := by
  unfold Machine.doClearRaw
  exact Sound.answer (Sound.setFlags h (x := { s.disp with raw := s.disp.raw &&& ~~~r.kinds }) rfl rfl) _ _ _

theorem doSetMask (h : s.Sound) (r : Request) : (Machine.doSetMask r s).Sound := by
  unfold Machine.doSetMask
  exact Sound.answer (Sound.setFlags h (x := { s.disp with mask := s.disp.mask ||| r.kinds }) rfl rfl) _ _ _

theorem doClearMask (h : s.Sound) (r : Request) : (Machine.doClearMask r s).Sound := by
  unfold Machine.doClearMask
  exact Sound.answer (Sound.setFlags h (x := { s.disp with mask := s.disp.mask &&& ~~~r.kinds }) rfl rfl) _ _ _

theorem doArmSnapshot (h : s.Sound) (r : Request) : (Machine.doArmSnapshot r s).Sound := by
  unfold Machine.doArmSnapshot
  split
  · split
    · exact (h.setSnap _).answer _ _ _
    · exact h.answer _ _ _
  · exact h.answer _ _ _

theorem doReadSnapshot (h : s.Sound) (r : Request) : (Machine.doReadSnapshot r s).Sound := by
  unfold Machine.doReadSnapshot
  dsimp only
  split
  · split
    · exact h.answer _ _ _
    · exact h.answer _ _ _
    · exact h.answer _ _ _
  · exact h.answer _ _ _

theorem doReleaseSnapshot (h : s.Sound) (r : Request) : (Machine.doReleaseSnapshot r s).Sound := by
  unfold Machine.doReleaseSnapshot
  split
  · exact h.answer _ _ _
  · exact (h.setSnap _).answer _ _ _
  · exact (h.setSnap _).answer _ _ _

/-- The action keeps soundness. -/
def Keeps (act : Action) : Prop := ∀ (r : Request) (t : State), t.Sound → (act r t).Sound

theorem Keeps.ite {c : Prop} [Decidable c] {a b : Action} (ha : Keeps a) (hb : Keeps b) :
    Keeps (if c then a else b) := by
  split
  · exact ha
  · exact hb

theorem keeps_actionOf (code : Byte) : Keeps (Machine.actionOf code) := by
  unfold Machine.actionOf
  refine Keeps.ite (fun r _ h => Sound.doWriteStaging h r) ?_
  refine Keeps.ite (fun r _ h => Sound.doReadTable h r) ?_
  refine Keeps.ite (fun r _ h => Sound.doCopyActive h r) ?_
  refine Keeps.ite (fun r _ h => Sound.doCommit h r) ?_
  refine Keeps.ite (fun r _ h => Sound.doHold h r) ?_
  refine Keeps.ite (fun r _ h => Sound.doRelease h r) ?_
  refine Keeps.ite (fun r _ h => Sound.doQuiesceGroup h r) ?_
  refine Keeps.ite (fun r _ h => Sound.doResumeGroup h r) ?_
  refine Keeps.ite (fun r _ h => Sound.doReadStatus h r) ?_
  refine Keeps.ite (fun r _ h => Sound.doReadGroup h r) ?_
  refine Keeps.ite (fun r _ h => Sound.doReadSources h r) ?_
  refine Keeps.ite (fun r _ h => Sound.doRestartAnalysis h r) ?_
  refine Keeps.ite (fun r _ h => Sound.doResetPart h r) ?_
  refine Keeps.ite (fun r _ h => Sound.doAckEvents h r) ?_
  refine Keeps.ite (fun r _ h => Sound.doClearRaw h r) ?_
  refine Keeps.ite (fun r _ h => Sound.doSetMask h r) ?_
  refine Keeps.ite (fun r _ h => Sound.doClearMask h r) ?_
  refine Keeps.ite (fun r _ h => Sound.doReadEvents h r) ?_
  refine Keeps.ite (fun r _ h => Sound.doArmSnapshot h r) ?_
  refine Keeps.ite (fun r _ h => Sound.doReadSnapshot h r) ?_
  exact fun r _ h => Sound.doReleaseSnapshot h r

theorem actionOf (h : s.Sound) (code : Byte) (r : Request) : (Machine.actionOf code r s).Sound :=
  keeps_actionOf code r s h

/-! ## Frames -/

theorem offerSToC (h : s.Sound) (f : List Byte) : (s.offerSToC f).Sound := by
  unfold State.offerSToC
  split
  next hu =>
    split
    next hl =>
      have hl8 : s.fwd.sToC.length < 8 := hl
      refine Sound.setFwd h ?_ h.forward.2.1 (fun hn => absurd ((isUp_c s).2 hn) (by simp [hu]))
      simp; omega
    · exact h.raise rfl
  · exact h

theorem offerCToS (h : s.Sound) (f : List Byte) : (s.offerCToS f).Sound := by
  unfold State.offerCToS
  split
  · split
    next hl =>
      have hl4 : s.fwd.cToS.length < 4 := hl
      refine Sound.setFwd h h.forward.1 ?_ (fun hn => h.forward.2.2 ((isUp_c s).2 hn))
      simp; omega
    · exact h.raise rfl
  · exact h

theorem giveRequest (h : s.Sound) (r : Request) {act : Action} (ha : ∀ t : State, t.Sound → (act r t).Sound) :
    (s.giveRequest r act).Sound := by
  unfold State.giveRequest
  split
  · exact h.raise rfl
  · unfold State.takeRequest
    split
    · exact h.answerBusy r
    · unfold State.beginRequest
      dsimp only
      split
      · exact ha _ (h.setMgmt _)
      · exact (h.setMgmt _).answer _ _ _

theorem giveFrame (h : s.Sound) (f : List Byte) : (s.giveFrame f).Sound := by
  unfold State.giveFrame
  split
  · exact h.giveRequest _ (fun _ ht => ht.actionOf _ _)
  · exact h.raise rfl

theorem classifyS (h : s.Sound) (f : List Byte) : (State.classifyS f s).Sound := by
  unfold State.classifyS
  split
  · exact (h.offerSToC f).raise rfl
  · split
    · split
      · exact (h.offerSToC f).track _ _ _
      · exact (h.offerSToC f).raise rfl
    · exact h.offerSToC f

theorem classifyC (h : s.Sound) (f : List Byte) : (State.classifyC f s).Sound := by
  unfold State.classifyC
  split
  · exact (h.offerCToS f).raise rfl
  · split
    · split
      · exact h.giveFrame f
      · split
        · exact (h.offerCToS f).giveFrame f
        · exact h.offerCToS f
    · split
      · exact h
      · exact h.offerCToS f

theorem received (h : s.Sound) (p : Port) {handle : State → State} (ha : ∀ t : State, t.Sound → (handle t).Sound) :
    (s.received p handle).Sound := by
  unfold State.received
  dsimp only
  split
  · exact h
  · split
    · split
      · exact h.goodInUp p
      · exact ha _ (h.goodInUp p)
    · split
      · exact h.enterUp p
      · exact ha _ (h.enterUp p)
    · exact h
    · exact h
    · exact h

theorem frameArrives (h : s.Sound) (p : Port) (f : List Byte) {classify : List Byte → State → State}
    (ha : ∀ t : State, t.Sound → (classify f t).Sound) : (s.frameArrives p f classify).Sound := by
  unfold State.frameArrives
  split
  · exact h.badCheck p
  · split
    · exact h.linkControl p _
    · exact h.received p ha

theorem requestArrives (h : s.Sound) (r : Request) {act : Action} (ha : ∀ t : State, t.Sound → (act r t).Sound) :
    (s.requestArrives r act).Sound := by
  unfold State.requestArrives
  refine h.received .c (fun t ht => ?_)
  unfold State.requestHandled
  split
  · exact (ht.offerCToS _).raise rfl
  · exact ht.giveRequest r ha

/-! ## Timers, the clock and the board -/

theorem commitExpires (h : s.Sound) : s.commitExpires.Sound := by
  unfold State.commitExpires
  split
  · split
    · exact h.forceCommit.finish
    · exact h
  · exact h

theorem holdExpires (h : s.Sound) : s.holdExpires.Sound := by
  unfold State.holdExpires
  split
  · exact h.endHold _ _
  · exact h

theorem running (h : s.Sound) {f : State → State} (hf : (f s).Sound) : (s.running f).Sound := by
  unfold State.running
  split
  · exact h
  · exact hf

theorem clockTick (h : s.Sound) : s.clockTick.Sound := by
  unfold State.clockTick
  have h1 : s.tickMask.Sound := h.setLinks_same rfl
  split
  · exact h1
  · have h2 : s.tickMask.tickPorts.Sound := h1.setLinks_same rfl
    have h3 : s.tickMask.tickPorts.tickSources.Sound := h2.setSources _
    have h4 : s.tickMask.tickPorts.tickSources.tickEngine.Sound := h3.setAna _
    exact h4.setMgmt _

/-- The part held in reset is sound: ALERT_N is released whatever the latches hold (R118). -/
theorem hold (h : s.Sound) (straps : BitVec 3) (c : ResetCause) : (s.hold straps c).Sound :=
  ⟨h.rep, h.disp, rfl, h.forward⟩

theorem powerUp (h : s.Sound) (straps : BitVec 3) : (s.powerUp straps).Sound :=
  Sound.setLinks_same (h.hold straps .powerOn) rfl

theorem resetLow (h : s.Sound) : s.resetLow.Sound := h.hold _ _

theorem resetHigh (h : s.Sound) : s.resetHigh.Sound := by
  unfold State.resetHigh
  split
  · exact Sound.takeFullReset _ _
  · exact h

end Sys2Proof.Machine.State.Sound
end

