-- ==== Sys2Proof/Laws/Windows.lean ====
section
/-! SUPPORT. Small facts of the Window Engine's operations, and what the judgement of a reference sample in TRACKING can
do (R59, R60). -/

namespace Sys2Proof.Machine

/-! ## Contexts and rows -/

/-- The group just replaced. -/
theorem State.group_setGroup (s : State) (g : Group) (x : GroupCtx) : (s.setGroup g x).group g = x := by
  simp [State.group, State.setGroup, State.setAna]

/-- The other groups keep their contexts. -/
theorem State.group_setGroup_ne (s : State) {g h : Group} (x : GroupCtx) (hn : h ≠ g) :
    (s.setGroup g x).group h = s.group h := by
  have : g.val ≠ h.val := fun e => hn (Fin.ext e.symm)
  simp [State.group, State.setGroup, State.setAna, Vector.getElem_set_ne, this]

/-- A row mapped is the library's map. -/
theorem vmap_eq_map {α β : Type} {n : Nat} (f : α → β) (v : Vector α n) : vmap f v = v.map f := by
  apply Vector.toList_inj.mp
  simp [vmap, Vector.toList_map]

/-! ## Frontiers and descriptors -/

/-- A frontier lets a tick pass when it is absent or the tick is after it (R57, R62). -/
theorem GroupCtx.passes_iff (x : GroupCtx) (c : Chan) (t : Tick) :
    x.passes c t = true ↔ ∀ f : Tick, x.frontiers[c] = some f → t ≠ f ∧ (t - f).toNat < 32768 := by
  unfold GroupCtx.passes
  split
  next f hf => simp only [hf, after, atOrAfter, Bool.and_eq_true, decide_eq_true_eq, bne_iff_ne, Option.some.injEq,
    forall_eq']; exact and_comm
  next hf => simp [hf]

/-- A frontier has reached a tick when it stands at or after it (R63). -/
theorem GroupCtx.reached_iff (x : GroupCtx) (c : Chan) (t : Tick) :
    x.reached c t = true ↔ ∃ f : Tick, x.frontiers[c] = some f ∧ (f - t).toNat < 32768 := by
  unfold GroupCtx.reached
  split
  next f hf => simp only [hf, atOrAfter, decide_eq_true_eq, Option.some.injEq, exists_eq_left']
  next hf => simp [hf]

/-- The lowest-numbered descriptor in a state. -/
theorem GroupCtx.descIn_eq_some_iff (x : GroupCtx) (st : DescState) (d : Desc) :
    x.descIn st = some d ↔ x.descs[d].state = st ∧ ∀ k : Desc, k < d → x.descs[k].state ≠ st := by
  have lowest : ∀ (f : Desc → Bool) (d : Desc),
      all3.find? f = some d ↔ f d = true ∧ ∀ k : Desc, k < d → ¬ f k = true := by decide
  rw [GroupCtx.descIn, lowest]
  simp only [beq_iff_eq, ne_eq]

/-! ## Reference samples -/

/-- A crossing's length closes the OPEN window exactly within the plan's bounds (R60). -/
@[simp]
theorem Plan.closesAt_iff (p : Plan) (n : Nat) : p.closesAt n = true ↔ p.minLen ≤ n ∧ n ≤ p.maxLen := by
  simp [Plan.closesAt]

/-- A reference sample judged in TRACKING rejects the window, closes it, leaves the state, or arms; what each needs. -/
theorem State.judgeTracking_cases (s : State) (g : Group) (p : Plan) (d : Desc) (t : Tick) (v : Int) :
    let start := (s.group g).descs[d].start
    let beyond := atOrAfter t (start + BitVec.ofNat 16 (p.maxLen + 1))
    let n := (t - start).toNat
    (beyond = true ∧ s.judgeTracking g p d t v = s.rejectWindow g d t) ∨
    (beyond = false ∧ (s.group g).crossing t v = true ∧ (p.minLen ≤ n ∧ n ≤ p.maxLen) ∧
      s.judgeTracking g p d t v = s.closeWindow g d t) ∨
    (beyond = false ∧ (s.group g).crossing t v = true ∧ ¬ (p.minLen ≤ n ∧ n ≤ p.maxLen) ∧
      s.judgeTracking g p d t v = s) ∨
    (beyond = false ∧ (s.group g).crossing t v = false ∧ s.judgeTracking g p d t v = s.armBy g p v) := by
  intro start beyond n
  unfold State.judgeTracking
  dsimp only
  split
  · exact .inl ⟨‹_›, rfl⟩
  · have hb : beyond = false := (Bool.not_eq_true _).mp ‹¬ _›
    split
    · split
      · exact .inr (.inl ⟨hb, ‹_›, (p.closesAt_iff n).mp ‹_›, rfl⟩)
      · exact .inr (.inr (.inl ⟨hb, ‹_›, fun h => ‹¬ _› ((p.closesAt_iff n).mpr h), rfl⟩))
    · exact .inr (.inr (.inr ⟨hb, (Bool.not_eq_true _).mp ‹¬ _›, rfl⟩))

end Sys2Proof.Machine
end

