-- ==== Sys2Proof/Tests/Slice0.lean ====
section
/-! SUPPORT. The tests: ill-formed commands refused by each check, the spec's worked examples, and for every statement
with hypotheses a state and operands that meet them together, at the boundary values of its clauses. -/

namespace Sys2Proof.Tests

set_option maxRecDepth 20000

open Sys2Proof.Machine

/-! ## States to test on -/

/-- A port in UP sending idle fill. -/
def upPort (x : PortState) : PortState :=
  { x with link := .up, phase := none, tx := some ⟨.control, controlFrame 48 .up⟩ }

/-- The part after reset with both ports UP. -/
def live : State :=
  { State.reset with
    links := { State.reset.links with s := upPort State.reset.links.s, c := upPort State.reset.links.c } }

/-- The live part with other ports. -/
def livePorts (fs fc : PortState → PortState) : State :=
  { live with links := { live.links with s := fs live.links.s, c := fc live.links.c } }

/-- A port in the given state with the given phase timer. -/
def inPhase (st : LinkState) (k : Nat) (x : PortState) : PortState := { x with link := st, phase := some k }

/-- A link that is DOWN with its retry timer running. -/
def downPort (x : PortState) : PortState := { x with link := .down, phase := none, retry := some 0, tx := none }

/-- The live part with another Management Unit. -/
def liveMgmt (f : Management → Management) : State := { live with mgmt := f live.mgmt }

/-- The live part with another context of group 0. -/
def liveGroup (f : GroupCtx → GroupCtx) : State :=
  { live with ana := { live.ana with groups := live.ana.groups.set 0 (f (live.group 0)) } }

/-- A frame of another station with a good check. -/
def otherFrame : List Byte := buildFrame 0x30 5 9 7 [1, 2, 3]

/-- A sample frame of node 3: one tick, one slot. -/
def sampleFrame (seq : Byte) : List Byte := buildFrame kindSample 0 3 seq [0, 10, 1, 1, 0, 5]

/-- A sample frame of node 3 whose tick count is 0. -/
def badSampleFrame : List Byte := buildFrame kindSample 0 3 7 [0, 10, 0, 1, 0, 5]

/-! ## Well-formedness: one ill-formed command for each check -/

theorem test_form_bad_check : (Instr.portSFrameReceived [1, 2, 3]).formError = some .badCheck := by decide
theorem test_form_link_control :
    (Instr.portCFrameReceived (controlFrame 48 .seek)).formError = some .linkControl := by decide
theorem test_form_long_payload :
    (Instr.linkControlReceived .s (List.replicate 241 0)).formError = some .longPayload := by decide
theorem test_form_mark_payload : (Instr.linkControlReceived .c [0x10]).formError = some .markPayload := by decide
theorem test_form_broadcast_source : (Instr.commit 63 1 []).formError = some .broadcastSource := by decide
theorem test_form_long_request :
    (Instr.writeStaging 1 1 (List.replicate 239 0)).formError = some .longRequest := by decide
theorem test_form_accepts :
    (Instr.portSFrameReceived otherFrame).wellFormed = true ∧ (Instr.linkControlReceived .s [1]).wellFormed = true ∧
      (Instr.commit 0 1 []).wellFormed = true := by decide

/-! ## Worked examples of the spec -/

/-- The check of the polynomial of R18, preset 0xFFFF, on the nine digits. -/
theorem test_check_value : check [0x31, 0x32, 0x33, 0x34, 0x35, 0x36, 0x37, 0x38, 0x39] = 0x29B1 := by decide

/-- A frame cut off, and one of fewer than 3 bytes, have a bad check (R18). -/
theorem test_check_short : goodCheck [0xFF, 0xFF] = false ∧ goodCheck (otherFrame.take 9) = false ∧
    goodCheck otherFrame = true := by decide

/-- The judgement sequence of 3.2. -/
def node3 : SourceEntry := ⟨.tracking, some 250, some 0, 0, 0, 0⟩
theorem test_judged_sequence :
    (node3.judged 250).judged 250 = ⟨.tracking, some 251, some 0, 0, 1, 0⟩ ∧
    ((((node3.judged 250).judged 250).judged 253).judged 252) = ⟨.tracking, some 254, some 0, 2, 1, 1⟩ ∧
    ((((((node3.judged 250).judged 250).judged 253).judged 252).judged 254).judged 3) =
      ⟨.tracking, some 4, some 0, 6, 1, 1⟩ := by decide

/-- The scalings of R49. -/
def scaled (gain offset raw : Int) : Int := MapEntry.scale { MapEntry.default with gain, offset } raw
theorem test_scale_rounds : scaled 5120 24 1000 = 1220 ∧ scaled 5120 24 (-1000) = -1280 ∧ scaled 3000 0 7 = 5 ∧
    scaled 3000 0 (-7) = -5 ∧ scaled (-4096) 0 2000 = -2000 := by decide
theorem test_scale_saturates : scaled 8192 (-10000) 30000 = 32767 ∧ scaled 4096 0 (-32768) = -32767 := by decide

/-- The classes of R95's table and where UNDER begins for BELOW. -/
def above : LimitEntry := ⟨true, 1, ⟨3, .amplitude, 5⟩, .above, 400, 60, 3, 2, 5⟩
theorem test_classes_above :
    [0, 339, 340, 341, 400, 401].map above.classify = [.under, .under, .under, .band, .band, .over] := by decide
/-- A negative MEAN under a BELOW entry with limit 0 (R95, log 38). -/
theorem test_class_negative_mean :
    { above with direction := .below, limit := 0, hysteresis := 0, ref := ⟨3, .mean, 0⟩ }.classify (-1) = .over := by decide
theorem test_classes_below :
    [0, 339, 340, 341, 400, 401, 459, 460].map { above with direction := .below }.classify =
      [.over, .over, .over, .over, .band, .band, .band, .under] := by decide

/-- The eight windows of 6.8 (window 22 is not stepped). -/
theorem test_limit_windows :
    [420, 435, 410, 380, 330, 372, 300].foldl
      (fun (l : List LimitState) v => l ++ [above.move (l.getLast?.getD .clear) (above.classify v)]) [] =
      [.rising 1, .rising 2, .exceeded, .exceeded, .falling 1, .falling 1, .clear] := by decide

/-- The round of selections of 8.10. -/
def routed : Bank :=
  { Bank.default 0 with
    settings := { Settings.default 0 with eventTable := true }
    events := ((Bank.default 0).events.set 4 ⟨1, .list⟩).set 11 ⟨3, .polled⟩
    routes := (Bank.default 0).routes.set 1 ⟨true, 0⟩ }
def round0 : Dispatcher :=
  { Dispatcher.reset with
    pending := 0x0830, mask := 0x0020, last := .commitForced
    fifos := { Dispatcher.reset.fifos with sourceGap := [.sourceGap 2 253 2] } }
def round1 : Dispatcher := round0.dispatch routed .sourceGap
theorem test_first_selection : round0.selected routed = some .sourceGap ∧
    round1.slot = some ⟨.sourceGap, some (.sourceGap 2 253 2), 0, 0, .list⟩ ∧ round1.pending = 0x0820 ∧
    round1.raw = 0x0010 ∧ round1.last = .sourceGap := by decide
def round2 : Dispatcher := { round1 with slot := none, status := 0x0010 }
theorem test_masked_selection : round2.selected routed = some .sourceLost ∧
    (round2.dispatch routed .sourceLost).slot = none ∧ (round2.dispatch routed .sourceLost).pending = 0x0800 := by decide
def round3 : Dispatcher := round2.dispatch routed .sourceLost
theorem test_unrouted_selection : round3.selected routed = some .linkDown ∧
    (round3.dispatch routed .linkDown).pending = 0 ∧ (round3.dispatch routed .linkDown).slot = none ∧
    (round3.dispatch routed .linkDown).raw = 0x0830 ∧ (round3.dispatch routed .linkDown).status = 0x0010 := by decide

/-- The PRESENCE frame of 1.9, with cause RESET_PIN (R10, R20). -/
theorem test_presence_frame :
    buildFrame kindPresence 63 48 0 ({ live with links := { live.links with cause := .resetPin } }).presenceBody =
      [0x23, 63, 48, 0, 0, 5, 0x4A, 0x12, 3, 48, 2, 0x97, 0x28] := by decide

/-- Measures of a short wave: mean, RMS, peak to peak, ripple (R82, R84), and an amplitude (R83). -/
theorem test_plain_measures : meanOf [-7, 0, 0] = -2 ∧ rmsOf [3, -3, 3, -3] = 3 ∧ peakToPeakOf [5, -2, 9] = 11 ∧
    rippleOf [1000, 900, 1100, 1000] = some 200 ∧ rippleOf [0, 0] = none := by decide

/-- A hole in a channel takes the nearest earlier sample, and the first present one before it (R81). -/
theorem test_filling : filled [(1, 10), (3, 30)] 0 5 = some [10, 10, 10, 30, 30] ∧ filled [] 0 4 = none := by decide

/-- Reading a table entry: default entries read back; a plan whose min length is 95 is a bad entry (R53). -/
theorem test_plan_read : Plan.read Plan.default.encode = some Plan.default ∧
    Plan.read { Plan.default with minLen := 95 }.encode = none := by decide
theorem test_settings_read : Settings.read (Settings.default 5).encode = some (Settings.default 5) ∧
    (Settings.default 5).commitOk = true ∧ { Settings.default 5 with staleMs := 1 }.commitOk = false := by decide

/-- The default bank passes COMMIT; a care of 0 in a valid signature is found (R113, R175). -/
theorem test_commit_checks : (Bank.default 0).signatureFailure = none ∧
    { Bank.default 0 with signatures := (Bank.default 0).signatures.set 2 { Signature.default with valid := true } }.signatureFailure
      = some 2 := by decide

/-- The two markers of a kind merge, and keep their place (R156). -/
theorem test_marker_merge :
    mergeWaiting (.commitDone 9 1) [.marker .holdEffective, .marker (.commitDone 8 255)] =
      some [.marker .holdEffective, .marker (.commitDone 9 255)] := by decide

/-! ## Hypotheses: steps, resets, bring-up -/

theorem test_meets_IdleStepAdvancesTimersOnly :
    State.reset.pending = [] ∧ State.reset.pins.held = none ∧ State.reset.resetLow.pending = [] ∧
      State.reset.resetLow.pins.held ≠ none := by decide

theorem test_meets_ResetPinHoldsAndResets :
    live.pins.held = none ∧ live.resetLow.pins.held = some .resetPin ∧
      live.resetLow.links.refusalDeferred = false := by decide

theorem test_meets_HeldPartTakesNothing :
    live.resetLow.pins.held ≠ none ∧ requestOf (.commit 1 2 []) = some ⟨1, 2, 4, []⟩ := by decide

theorem test_meets_BringUpFollowsPhases :
    (livePorts downPort downPort).pins.held = none ∧ (livePorts downPort downPort).settings.portSEnable = true ∧
      ((livePorts downPort downPort).port .s).link = .down ∧
      ((livePorts (inPhase .seek 39999) (inPhase .align 40000)).port .s).phase = some 39999 ∧
      ((livePorts (inPhase .seek 39999) (inPhase .align 40000)).port .s).link = .seek ∧
      ((livePorts (inPhase .seek 39999) (inPhase .align 40000)).port .c).link = .align ∧
      ((livePorts (inPhase .seek 39999) (inPhase .align 40000)).port .c).phase = some 40000 := by decide

/-- Both ports in CONFIRM, Port C at its phase minimum and Port S with its settle running. -/
def confirming : State :=
  livePorts (fun x => { inPhase .confirm 40000 x with settle := some 0 }) (inPhase .confirm 40000)
theorem test_meets_ConfirmFollowsItsTable :
    confirming.pins.held = none ∧ confirming.settings.portSEnable = true ∧ (confirming.port .c).link = .confirm ∧
      (confirming.port .c).phase = some 40000 ∧ (confirming.port .c).settle = none ∧
      (confirming.port .c).early = false ∧ (confirming.port .s).link = .confirm ∧
      (confirming.port .s).settle ≠ none := by decide

theorem test_meets_LinkControlInUp :
    live.pins.held = none ∧ live.settings.portSEnable = true ∧ (live.port .s).link = .up ∧ controlOf [5] = none ∧
      controlOf [] = none ∧ (confirming.port .s).link ≠ .up := by decide

/-- Port S in SEEK with an early arrival, Port C in CONFIRM with one. -/
def early : State :=
  livePorts (fun x => { inPhase .seek 100 x with early := true }) (fun x => { inPhase .confirm 100 x with early := true })
theorem test_meets_PhaseMinimumAndDeadline :
    early.pins.held = none ∧ (early.port .s).phase = some 100 ∧ (early.port .s).early = true ∧
      (early.port .s).link = .seek ∧ (early.port .c).link = .confirm ∧ (early.port .c).early = true ∧
      (confirming.port .c).early = false ∧ (confirming.port .c).settle = none ∧
      ((livePorts (inPhase .align 100) id).port .s).link = .align ∧
      ((livePorts (inPhase .align 100) id).port .c).link = .up := by decide

theorem test_meets_SettleRetryAndMaskExpiries :
    confirming.pins.held = none ∧ (confirming.port .s).link = .confirm ∧ (confirming.port .s).settle ≠ none ∧
      (confirming.port .c).settle = none ∧ ((livePorts downPort id).port .s).link = .down ∧
      ((livePorts downPort id).port .s).retry ≠ none ∧ (live.port .c).link ≠ .down := by decide

/-- Port S one bad check short of the eighth, Port C at it. -/
def failing : State := livePorts (fun x => { x with badRun := 6 }) (fun x => { x with badRun := 7 })
theorem test_meets_BadCheckIsCounted :
    failing.pins.held = none ∧ failing.settings.portSEnable = true ∧ (failing.port .s).link = .up ∧
      (failing.port .s).badRun < 7 ∧ goodCheck [1, 2] = false ∧ (confirming.port .s).link ≠ .up ∧
      (liveMgmt (fun m => { m with active := { m.active with settings :=
        { m.active.settings with portSEnable := false } } })).settings.portSEnable = false := by decide

theorem test_meets_PortLeavesUp :
    failing.pins.held = none ∧ (failing.port .c).link = .up ∧ failing.mgmt.commit = none ∧
      failing.links.markReset = none ∧ failing.mgmt.restartMark = false ∧ 7 ≤ (failing.port .c).badRun ∧
      (failing.port .c).sendsResetPart = false ∧ (failing.port .s).sendsResetPart = false := by decide

/-! ## Hypotheses: marks -/

theorem test_meets_RefusedMarkIsReported :
    live.pins.held = none ∧ (live.port .s).link = .up ∧ live.links.markReset = none ∧ live.mgmt.restartMark = false ∧
      live.settings.acceptS = false ∧ (live.startMask).links.mask ≠ none ∧
      (liveMgmt (fun m => { m with restartMark := true })).mgmt.restartMark = true ∧
      (confirming.port .s).link ≠ .up := by decide

theorem test_meets_AcceptedMarkIsPassedOn :
    live.pins.held = none ∧ (live.port .c).link = .up ∧ live.links.mask = none ∧ live.links.markReset = none ∧
      live.mgmt.restartMark = false ∧ live.settings.acceptC = true ∧ (live.port .s).link = .up := by decide

theorem test_meets_AcceptedMarkResetsAtOnce :
    (livePorts downPort id).pins.held = none ∧ ((livePorts downPort id).port .c).link = .up ∧
      (livePorts downPort id).links.mask = none ∧ (livePorts downPort id).mgmt.commit = none ∧
      (livePorts downPort id).links.markReset = none ∧ (livePorts downPort id).mgmt.restartMark = false ∧
      (livePorts downPort id).links.refusalDeferred = false ∧ ((livePorts downPort id).port .s).link ≠ .up ∧
      (livePorts downPort id).settings.acceptC = true := by decide

/-- The part with an accepted mark out of Port S, and with a propagating restart out of it. -/
def marking (m : Mark) : State := live.acceptMark .c m
def restarting : State := propagateRestart ⟨1, 2, 0x0C, [1]⟩ (live.taken ⟨1, 2, 0x0C, [1]⟩)
theorem test_meets_MarkEndTakesItsReset :
    (marking .stationMark).links.markReset = some ⟨.stationMark, .c⟩ ∧
      (marking .sectionMark).links.markReset = some ⟨.sectionMark, .c⟩ ∧
      ((marking .stationMark).port .s).tx = some ⟨.mark, controlFrame 48 (.mark .stationMark)⟩ ∧
      (marking .stationMark).mgmt.commit = none ∧ restarting.mgmt.restartMark = true ∧
      restarting.links.markReset = none ∧ restarting.mgmt.request = some ⟨1, 2, 0x0C, [1]⟩ ∧
      (restarting.port .s).sendsMark = true ∧ live.links.markReset = none ∧ live.mgmt.restartMark = false := by decide

/-! ## Hypotheses: frames -/

theorem test_live_hears_C : live.hearsOnC := ⟨rfl, rfl, .inl rfl⟩
theorem test_live_hears_S : live.hearsOnS := ⟨rfl, rfl, rfl, .inl rfl⟩
theorem test_confirming_hears : confirming.hearsOnC ∧ confirming.hearsOnS :=
  ⟨⟨rfl, rfl, .inr rfl⟩, ⟨rfl, rfl, rfl, .inr rfl⟩⟩
theorem test_live_takes_requests : live.takesRequests := ⟨test_live_hears_C, rfl⟩
theorem test_live_calm : live.calm := ⟨rfl, rfl, rfl⟩

theorem test_meets_UnheardFramesAreDiscarded :
    goodCheck otherFrame = true ∧ kindByte otherFrame ≠ kindLinkControl ∧
      ((livePorts downPort downPort).port .s).link ≠ .up ∧ ((livePorts downPort downPort).port .c).link ≠ .confirm ∧
      (marking .stationMark).pins.held = none ∧ (marking .stationMark).links.markReset ≠ none ∧
      ((marking .stationMark).port .s).link = .up ∧ (marking .stationMark).settings.portSEnable = true := by decide

theorem test_meets_PortSForwardsUnanalysed :
    goodCheck otherFrame = true ∧ kindByte otherFrame ≠ kindLinkControl ∧ kindByte otherFrame ≠ kindSample ∧
      goodCheck badSampleFrame = true ∧ sampleWellFormed (payload badSampleFrame) = false ∧
      malformedHeader badSampleFrame = false ∧ nodeOf (sourceByte badSampleFrame) ≠ none := by decide

theorem test_meets_SampleFrameIsJudged :
    goodCheck (sampleFrame 7) = true ∧ malformedHeader (sampleFrame 7) = false ∧
      kindByte (sampleFrame 7) = kindSample ∧ nodeOf (sourceByte (sampleFrame 7)) = some 2 ∧
      sampleWellFormed (payload (sampleFrame 7)) = true ∧ live.sources[2].state ≠ .tracking ∧
      seqByte (sampleFrame 7) = 7 := by decide

/-- The live part whose node 3 is TRACKING and expects a sequence. -/
def expecting (x : Byte) : State := live.setSource 2 ⟨.tracking, some x, some 0, 0, 0, 0⟩
/-- The frame of sequence 7 at every distance at which R36 changes its judgement. -/
theorem test_meets_frame_distances :
    ([7, 6, 136, 135, 9, 8] : List Byte).map (fun x => (seqByte (sampleFrame 7) - x).toNat) = [0, 1, 127, 128, 254, 255] ∧
      (∀ x : Byte, (expecting x).sources[2].state = .tracking ∧ (expecting x).sources[2].expected = some x) ∧
      (∀ x : Byte, (expecting x).hearsOnS) :=
  ⟨by decide, fun _ => ⟨rfl, rfl⟩, fun _ => ⟨rfl, rfl, rfl, .inl rfl⟩⟩
/-- What the node's entry becomes of that frame at a distance of 127 and of 128 (R36, R37). -/
theorem test_frame_distance_limit :
    (State.classifyS (sampleFrame 7) (expecting 136)).sources[2] = ⟨.tracking, some 8, some 0, 127, 0, 0⟩ ∧
      (State.classifyS (sampleFrame 7) (expecting 136)).disp.fifos.sourceGap = [.sourceGap 2 7 127] ∧
      (State.classifyS (sampleFrame 7) (expecting 135)).sources[2] = ⟨.tracking, some 135, some 0, 0, 0, 1⟩ ∧
      (State.classifyS (sampleFrame 7) (expecting 135)).disp.pending = 0 := by decide

theorem test_meets_PortCForwardsOrDiscards :
    goodCheck otherFrame = true ∧ malformedHeader otherFrame = false ∧ kindByte otherFrame ≠ kindRequest ∧
      addrOf (destByte otherFrame) ≠ live.partAddr ∧
      addrOf (destByte (buildFrame 0x30 48 9 7 [])) = live.partAddr ∧
      malformedHeader [0x20, 64, 1, 1, 0, 0, 0, 0] = true := by decide

/-- REQUEST frames for the part and for 63: taken, from address 63, and with a payload under 2 bytes. -/
theorem test_meets_taken_requests :
    ([(48, 7, [9, 1]), (63, 7, [9, 1]), (63, 63, [9, 1]), (63, 7, [9])] : List (Addr × Addr × List Byte)).map
      (fun (dest, source, body) =>
        let frame := buildFrame kindRequest dest source 5 body
        (goodCheck frame && !malformedHeader frame && kindByte frame == kindRequest,
          addrOf (destByte frame) == live.partAddr, addrOf (sourceByte frame) == 63, (payload frame).length)) =
      [(true, true, false, 2), (true, false, false, 2), (true, false, true, 2), (true, false, false, 1)] := by decide

theorem test_meets_RequestRowIsItsFrame : requestOf (.readEvents 1 2 []) = some ⟨1, 2, 0x14, []⟩ := rfl

/-- The live part owing PRESENCE, or with what the three sources may hold. -/
def owing : State := { live with links := { live.links with presenceOwed := true } }
def loaded : State :=
  { live with
    fwd := { live.fwd with sToC := [otherFrame] }
    rep := { live.rep with records := [⟨0, .marker .holdEffective⟩] }
    disp := { live.disp with slot := some ⟨.linkDown, none, 0, 0, .polled⟩ } }
theorem test_meets_PortCSendsPresenceFirst :
    owing.links.c.tx = some ⟨.control, controlFrame 48 .up⟩ ∧ owing.links.c.link = .up ∧
      owing.links.presenceOwed = true ∧ confirming.links.c.tx = some ⟨.control, controlFrame 48 .up⟩ ∧
      confirming.links.c.link ≠ .up ∧ (marking .stationMark).links.c.tx = some ⟨.control, controlFrame 48 .up⟩ ∧
      (marking .stationMark).links.markReset ≠ none ∧ (marking .stationMark).links.presenceOwed = false := by decide

theorem test_meets_ArbiterGrantsInRotation :
    loaded.links.c.tx = some ⟨.control, controlFrame 48 .up⟩ ∧ loaded.links.c.link = .up ∧
      loaded.links.presenceOwed = false ∧ loaded.links.markReset = none ∧ loaded.fwd.lastGranted = .event ∧
      loaded.fwd.sToC = [otherFrame] ∧ loaded.rep.records = [⟨0, .marker .holdEffective⟩] ∧
      loaded.rep.waiting = [] ∧ loaded.disp.slot = some ⟨.linkDown, none, 0, 0, .polled⟩ ∧
      live.fwd.sToC = [] ∧ live.rep.records = [] ∧ live.disp.slot = none := by decide

/-- A full Report Queue behind which a marker waits, REPORT next in turn. -/
def fullQueue : State :=
  { live with
    rep := ⟨List.replicate 64 ⟨0, .marker .holdEffective⟩, 0, [.marker (.groupQuiesced 3)]⟩
    fwd := { live.fwd with lastGranted := .forward } }
theorem test_meets_waiting_grant : fullQueue.rep.records.length = 64 ∧
    fullQueue.rep.waiting = [.marker (.groupQuiesced 3)] ∧ fullQueue.fwd.lastGranted = .forward ∧
    fullQueue.links.c.tx = some ⟨.control, controlFrame 48 .up⟩ ∧ fullQueue.fwd.sToC = [] ∧
    fullQueue.disp.slot = none := by decide

theorem test_meets_PortSDrainsItsBuffer :
    live.links.s.tx = some ⟨.control, controlFrame 48 .up⟩ ∧ live.links.s.link = .up ∧ live.links.markReset = none ∧
      (live.offerCToS otherFrame).fwd.cToS = [otherFrame] ∧ early.links.s.link = .seek ∧
      early.links.s.tx = some ⟨.control, controlFrame 48 .up⟩ ∧
      (livePorts (fun x => { x with link := .down }) id).links.s.link = .down := by decide

/-- The live part sending the DONE reply of a RESET_PART request. -/
def replying : State := live.setTx .c (some ⟨.report true, [0x21]⟩)
theorem test_meets_ResetPartAnswersThenResets :
    replying.links.refusalDeferred = false ∧ replying.links.c.tx = some ⟨.report true, [0x21]⟩ ∧
      replying.pins.held = none ∧ replying.links.c.link = .up ∧
      live.links.c.tx = some ⟨.control, controlFrame 48 .up⟩ := by decide

theorem test_meets_SamplePayloadForm :
    goodCheck badSampleFrame = true ∧ malformedHeader badSampleFrame = false ∧
      kindByte badSampleFrame = kindSample ∧ sampleWellFormed (payload badSampleFrame) = false ∧
      sampleWellFormed [0, 0, 4, 8] = false ∧ sampleWellFormed [0, 0, 1, 1, 0, 0] = true := by decide

/-! ## Hypotheses: sources, windows, evaluations -/

/-- Channel 0 of group 0 is its reference, on node 1; channel 1 its DC current. -/
def refEntry : MapEntry := ⟨true, 0, 0, 0, 0, .acVoltageRef, 4096, 0⟩
def currentEntry : MapEntry := ⟨true, 0, 1, 0, 1, .dcCurrent, 4096, 0⟩
def mappedBank : Bank :=
  { Bank.default 0 with channelMap := ((Bank.default 0).channelMap.set 0 refEntry).set 1 currentEntry }

/-- Group 0 in a state, its reference last seen below zero at the tick before t and the arm set. -/
def armedAt (t : Tick) (st : GroupState) (x : GroupCtx) : GroupCtx :=
  { x with state := st, arm := true, lastRef := some (t - 1, -5) }
/-- The same with a crossing due at tick 128. -/
def armed : GroupState → GroupCtx → GroupCtx := armedAt 128

/-- Group 0 in TRACKING with its window 1 open since tick 0 and a crossing due at tick t. -/
def openAt (t : Tick) (x : GroupCtx) : GroupCtx :=
  { (armedAt t .tracking x).setDesc 0 ⟨.opened, 1, 0, none, none, 0, Vector.replicate 8 0, false⟩ with counter := 1 }
/-- The same with the crossing at tick 128. -/
def openOne : GroupCtx → GroupCtx := openAt 128

/-- The descriptor of a window of group 0 in a state. -/
def windowIn (st : DescState) (number : Half) (start stop : Tick) : Descriptor :=
  ⟨st, number, start, some stop, some (stop - start).toNat, 0, Vector.replicate 8 0, false⟩

/-- Group 0 in TRACKING with window 2 open since tick 0 and window 1 before it SETTLING. -/
def openAndSettling (x : GroupCtx) : GroupCtx :=
  { (openOne x).setDesc 1 (windowIn .settling 0 65436 0) with counter := 1 }

/-- Group 0 in TRACKING with one window OPEN and the two before it QUEUED, so that none is FREE. -/
def exhausted : State :=
  let s := liveGroup (fun x => ((openOne x).setDesc 1 (windowIn .queued 0 65436 0)).setDesc 2 (windowIn .queued 65535 65336 65436))
  { s with ana := { s.ana with queue := [⟨0, 2⟩, ⟨0, 1⟩] } }

/-- The mapped part whose node 1, the reference of group 0, is TRACKING, with windows OPEN and SETTLING in the group. -/
def losing : State :=
  let s := (liveGroup openAndSettling).setSource 0 ⟨.tracking, some 1, some 0, 0, 0, 0⟩
  { s with mgmt := { s.mgmt with active := mappedBank } }

theorem test_windows_ok_of (s : State) (hg : ∀ g : Group, (s.group g).ok)
    (hq : s.ana.queue.length ≤ 16 ∧ s.ana.queue.Nodup)
    (hw : ∀ (g : Group) (d : Desc), (⟨g, d⟩ ∈ s.ana.queue ↔ (s.ana.groups[g]).descs[d].state = .queued) ∧
      ((s.ana.engine.map Evaluation.win = some ⟨g, d⟩) ↔ (s.ana.groups[g]).descs[d].state = .evaluating)) :
    s.WindowsOk :=
  ⟨hg, hq.1, hq.2, fun w => (hw w.group w.desc).1, fun w => (hw w.group w.desc).2⟩

theorem test_windows_ok : (liveGroup openOne).WindowsOk :=
  test_windows_ok_of _ (by unfold GroupCtx.ok; decide) (by decide) (by decide)
theorem test_windows_ok_settling : (liveGroup openAndSettling).WindowsOk :=
  test_windows_ok_of _ (by unfold GroupCtx.ok; decide) (by decide) (by decide)
theorem test_windows_ok_exhausted : exhausted.WindowsOk :=
  test_windows_ok_of _ (by unfold GroupCtx.ok; decide) (by decide) (by decide)
theorem test_windows_ok_losing : losing.WindowsOk :=
  test_windows_ok_of _ (by unfold GroupCtx.ok; decide) (by decide) (by decide)

theorem test_meets_StaleTimeoutLosesTheNode :
    live.pins.held = none ∧ live.sources[0].state ≠ .tracking ∧ losing.pins.held = none ∧
      losing.sources[0].state = .tracking ∧ losing.mgmt.commit = none ∧ losing.links.markReset = none ∧
      losing.mgmt.restartMark = false ∧ losing.mgmt.active.refNode 0 = some 0 ∧
      losing.mgmt.active.refNode 1 ≠ some 0 ∧ (losing.group 0).state = .tracking ∧
      (losing.group 0).descs[0].state = .opened ∧ (losing.group 0).descs[1].state = .settling ∧
      losing.ana.queue.length ≤ 8 := by decide

/-- Group 0 in SEEKING with a crossing due and no descriptor FREE, two of its windows QUEUED and one in evaluation. -/
def seekingFull : State :=
  let s := liveGroup (fun x => (((armed .seeking x).setDesc 0 (windowIn .evaluating 65534 65236 65336)).setDesc 1
    (windowIn .queued 0 65436 0)).setDesc 2 (windowIn .queued 65535 65336 65436))
  { s with ana := { s.ana with queue := [⟨0, 2⟩, ⟨0, 1⟩], engine := some ⟨⟨0, 0⟩, 400, 0⟩ } }
theorem test_meets_CrossingOpensWindow :
    ((liveGroup (armed .seeking)).group 0).state = .seeking ∧
      ((liveGroup (armed .seeking)).group 0).passes ((liveGroup (armed .seeking)).plan 0).refChan 128 = true ∧
      ((liveGroup (armed .seeking)).group 0).crossing 128 0 = true ∧
      ((liveGroup (armed .seeking)).group 0).crossing 128 (-1) = false ∧
      ((liveGroup (armed .seeking)).group 0).crossing 129 0 = false ∧
      ((liveGroup (armed .seeking)).group 0).descIn .free = some 0 ∧
      (seekingFull.group 0).crossing 128 0 = true ∧ (seekingFull.group 0).descIn .free = none ∧
      seekingFull.ana.queue.find? (fun a => a.group == 0) = some ⟨0, 2⟩ ∧
      ((liveGroup (armed .blind)).group 0).state = .blind := by decide

/-- A sample at the frontier, and one 32,768 ticks past it, are not examined; one a tick past it is (R57, log 21). -/
theorem test_frontier_limit :
    ([128, 129, 32895, 32896] : List Tick).map
      (GroupCtx.passes { live.group 0 with state := .seeking, frontiers := Vector.replicate 8 (some 128) } 0) =
      [false, true, true, false] := by decide

/-- A tick rejects the window that opened at tick 0 under the default plan (R59). -/
def beyond (t : Tick) : Bool := decide ((t - (0 + BitVec.ofNat 16 (192 + 1))).toNat < 32768)

/-- The clauses of the statement on the OPEN window, at the lengths at which they change: rejection, and crossings below
min, at min and max, and before the start. -/
theorem test_meets_CrossingClosesWindow :
    (([95, 96, 192, 193, 32960, 32961, 65535] : List Tick).map fun t => (beyond t,
      ((liveGroup (openAt t)).group 0).crossing t 0,
      ((liveGroup (openAt t)).group 0).passes ((liveGroup (openAt t)).plan 0).refChan t)) =
      [(false, true, true), (false, true, true), (false, true, true), (true, true, true), (true, true, true),
        (false, true, true), (false, true, true)] ∧
      ((liveGroup openOne).plan 0).minLen = 96 ∧ ((liveGroup openOne).plan 0).maxLen = 192 ∧
      ((liveGroup openOne).group 0).state = .tracking ∧ ((liveGroup openOne).group 0).descIn .opened = some 0 ∧
      ((liveGroup openOne).group 0).descIn .free = some 1 ∧ (liveGroup openOne).ana.queue.length < 15 ∧
      (liveGroup openOne).mgmt.hold = none ∧ (liveGroup openOne).mgmt.commit = none ∧
      ((liveGroup openOne).group 0).rejects < 2 ∧ ((liveGroup openOne).group 0).crossing 128 (-1) = false := by decide

theorem test_meets_close_with_settling_and_exhaustion :
    ((liveGroup openAndSettling).group 0).descs[1].state = .settling ∧
      ((liveGroup openAndSettling).group 0).crossing 128 0 = true ∧
      ((liveGroup openAndSettling).group 0).descIn .free = some 2 ∧
      (exhausted.group 0).descIn .free = none ∧ (exhausted.group 0).descIn .settling = none ∧
      (exhausted.group 0).crossing 128 0 = true ∧ exhausted.ana.queue.find? (fun a => a.group == 0) = some ⟨0, 2⟩ := by
  decide

/-- The part with window 1 of group 0 open, a commit pending that group 0 has not switched to, and its new plan. -/
def switching (enabled : Bool) (rejects : Nat) : State :=
  let s := ((liveGroup (fun x => { openOne x with rejects })).setSnap ⟨.armed ⟨0, .onLimit, [1], 1⟩, emptyBuffer⟩).acceptCommit
  { s with mgmt := { s.mgmt with
      staging := { s.mgmt.staging with plans := s.mgmt.staging.plans.set 0 { Plan.default with enabled } } } }
theorem test_meets_switch_at_boundary :
    ([false, true].map fun on => [0, 1, 2].map fun k => decide (
      (switching on k).mgmt.commit = some ⟨1, 0xFE, some 0, 500, 0⟩ ∧
      (switching on k).mgmt.staging.plans[(0 : Group)].enabled = on ∧ ((switching on k).group 0).rejects = k ∧
      ((switching on k).group 0).descIn .opened = some 0)) = [[true, true, true], [true, true, true]] ∧
      GroupSet.has 0xFE 0 = false := by decide

/-- A crossing before the window's start closes nothing, and one at min length closes (R60, log 37). -/
theorem test_crossing_before_start :
    (((liveGroup (openAt 65535)).takeReference 0 65535 0).group 0).descIn .opened = some 0 ∧
      (((liveGroup (openAt 65535)).takeReference 0 65535 0).group 0).arm = true ∧
      (((liveGroup (openAt 96)).takeReference 0 96 0).group 0).descs[0].state = .evaluating ∧
      (((liveGroup (openAt 96)).takeReference 0 96 0).group 0).descs[1].start = 96 := by decide

/-- A switch at a boundary under a disabled plan takes the group to OFF and aborts its armed capture (R72, R201). -/
theorem test_switch_to_off :
    (((switching false 0).takeReference 0 128 0).group 0).state = .off ∧
      ((switching false 0).takeReference 0 128 0).snap.state = .empty ∧
      ((switching false 0).takeReference 0 128 0).rep.records.map Held.record = [.marker (.snapshot false)] := by decide

theorem test_group_ok : ((liveGroup openOne).group 0).ok ∧ ((liveGroup openAndSettling).group 0).ok := by
  unfold GroupCtx.ok
  decide

theorem test_meets_SamplePlacedOrCounted :
    ((liveGroup openOne).group 0).isLate 65535 = true ∧ ((liveGroup openOne).group 0).isAhead 256 = true ∧
      ((liveGroup openOne).group 0).isLate 255 = false ∧ ((liveGroup openOne).group 0).isAhead 255 = false ∧
      present? ((liveGroup openOne).group 0).store[(0 : Chan)] 255 = none ∧
      ((liveGroup openAndSettling).group 0).isLate 65535 = false ∧
      ((liveGroup openAndSettling).group 0).isAhead 65535 = false ∧
      ((liveGroup openAndSettling).group 0).isLate 65435 = true ∧ (exhausted.group 0).isLate 65535 = true ∧
      (live.group 0).isLate 9 = false ∧ (live.group 0).isAhead 9 = false := by decide

/-- The mapped part with windows OPEN and SETTLING: the SETTLING window settles when the reference has passed its end by
the settle allowance of 8 ticks, and not a tick before (R63). -/
theorem test_meets_taken_sample :
    (live.group 0).state = .off ∧ (losing.group 0).state = .tracking ∧ (losing.plan 0).refChan = 0 ∧
      (losing.plan 0).allowance = 8 ∧ (losing.group 0).descs[1].stop = some 0 ∧
      ((losing.takeSample 0 0 7 1).group 0).descs[1].state = .settling ∧
      ((losing.takeSample 0 0 8 1).group 0).descs[1].state = .evaluating ∧
      ((losing.takeSample 0 0 8 1).group 0).frontiers[(0 : Chan)] = some 8 := by decide

/-- The three fates of a window that settles: in evaluation at once, QUEUED behind the engine, the queue full. -/
theorem test_meets_settling :
    losing.ana.queue = [] ∧ losing.ana.engine = none ∧ seekingFull.ana.queue.length < 16 ∧
      seekingFull.ana.engine ≠ none ∧ 16 ≤ (List.replicate 16 (⟨1, 0⟩ : WinRef)).length := by decide

/-- Nodes of group 0 that map the six phases, a DC voltage and a DC current, with AMPLITUDE(1) listed. -/
def bridges : WindowView :=
  let kinds : List ChanKind := [.acA1, .acA2, .acA3, .acB1, .acB2, .acB3, .dcVoltage, .dcCurrent]
  { group := 0, start := 65535, len := 3, store := Vector.replicate 8 [(0, 900), (1, -400), (65535, 5)]
    bank := { Bank.default 0 with
      channelMap := vtab 64 (fun i => ⟨decide (i < 8), 0, 0, 0, BitVec.ofNat 3 i |>.toFin, kinds.getD i .dcVoltage, 4096, 0⟩)
      plans := (Bank.default 0).plans.set 0 { Plan.default with orders := [1, 2] } } }
/-- The clauses on a mapped channel, by its kind: available orders, the ratios, and the phases of both bridges. -/
theorem test_meets_MeasuresOfWindow :
    (bridges.bank.entryOf 0 0).map MapEntry.kind = some .acA1 ∧ (bridges.bank.entryOf 0 6).map MapEntry.kind = some .dcVoltage ∧
      (bridges.bank.entryOf 1 0).map MapEntry.kind = none ∧
      filled bridges.store[(0 : Chan)] bridges.start bridges.len = some [5, 900, -400] ∧
      filled [(1, 7)] 65535 4 = some [7, 7, 7, 7] ∧ filled [(0, 7), (1, 8)] 65535 4 = some [7, 7, 8, 8] ∧
      filled [] 0 4 = none ∧ 1 ∈ bridges.bank.plans[(0 : Group)].orders ∧ 2 * 1 < bridges.len ∧ bridges.len ≤ 2 * 2 ∧
      bridges.bank.plans[(0 : Group)].orders.length ≤ 16 ∧ (meanOf [5, 900, -400]).natAbs < 328 ∧
      328 ≤ (meanOf [328, 328]).natAbs ∧ [32767, -32767] ≠ ([] : List Int) ∧ [32767, -32767].length ≤ 192 ∧
      ∀ x ∈ ([32767, -32767] : List Int), -32767 ≤ x ∧ x ≤ 32767 := by decide
theorem test_meets_phases :
    [ChanKind.acA1, .acA2, .acA3, .acB1, .acB2, .acB3].map bridges.phase = [some 0, some 1, some 2, some 3, some 4, some 5] ∧
      bridges.phase .acVoltageRef = none := by decide

/-- The order and the length of AMPLITUDE's statement, at the shortest length an order admits. -/
theorem test_meets_AmplitudeIsExact :
    1 ≤ 1 ∧ 2 * 1 < [32767, 0, -32767].length ∧ [32767, 0, -32767].length ≤ 192 ∧
      ∀ x ∈ ([32767, 0, -32767] : List Int), -32767 ≤ x ∧ x ≤ 32767 := by decide

/-- Group 0 with a window of two ticks in evaluation, over the given bank and samples of channel 1. -/
def evaluating (b : Bank) (cells : Cells) : State :=
  { live with
    mgmt := { live.mgmt with active := b, staging := b }
    ana := { live.ana with
      engine := some ⟨⟨0, 0⟩, 400, 400⟩
      groups := live.ana.groups.set 0
        { live.group 0 with
          state := .tracking
          descs := (live.group 0).descs.set 0 ⟨.evaluating, 1, 0, some 2, some 2, 0, Vector.replicate 8 2, false⟩
          store := (live.group 0).store.set 1 cells } } }

/-- A bank whose group 0 has another verdict mode. -/
def modeBank (mode : VerdictMode) : Bank :=
  { mappedBank with plans := mappedBank.plans.set 0 { Plan.default with mode } }

/-- The window evaluated while the unit is armed for its group. -/
def capturing (trigger : Trigger) (b : Bank) (cells : Cells) : State :=
  (evaluating b cells).setSnap ⟨.armed ⟨0, trigger, [1], 0⟩, emptyBuffer⟩

/-- The verdict modes and the trigger, met and not met, of the two statements on an ended window. -/
theorem test_meets_ended_window_clauses :
    (((evaluating (modeBank .onChange) []).viewOf ⟨0, 0⟩).bank.plans[(0 : Group)].mode = .onChange) ∧
      ((evaluating (modeBank .onChange) []).ana.lastVerdicts[(0 : Group)]) = none ∧
      (((evaluating (modeBank .off) []).viewOf ⟨0, 0⟩).bank.plans[(0 : Group)].mode = .off) ∧
      (capturing .nextWindow mappedBank []).snap.state = .armed ⟨0, .nextWindow, [1], 0⟩ ∧
      ((1 : Half) - 0).toNat = 1 ∧ (1 : Half).toNat % 2 = 1 := by decide

/-- An ended window that is next after the arming is captured, with its samples and its marker (R198 to R200); one that
is odd does not meet NEXT_EVEN. -/
theorem test_capture :
    (capturing .nextOdd mappedBank [(1, 44)]).endEvaluation.snap.state =
        .ready ⟨0, .nextOdd, [1], 0⟩ ⟨1, 0, 2, .idle, 0⟩ ∧
      (capturing .nextOdd mappedBank [(1, 44)]).endEvaluation.snap.buffer[(1 : Fin 192)][(0 : Fin 4)] = some 44 ∧
      (capturing .nextOdd mappedBank [(1, 44)]).endEvaluation.rep.records.map Held.record = [.marker (.snapshot true)] ∧
      (capturing .nextEven mappedBank [(1, 44)]).endEvaluation.snap.state = .armed ⟨0, .nextEven, [1], 0⟩ := by decide

theorem test_meets_UncheckedWindowEnds :
    (evaluating (Bank.default 0) []).pins.held = none ∧
      (evaluating (Bank.default 0) []).ana.engine = some ⟨⟨0, 0⟩, 400, 400⟩ ∧
      (evaluating (Bank.default 0) []).mgmt.hold = none ∧ (evaluating (Bank.default 0) []).mgmt.commit = none ∧
      ((evaluating (Bank.default 0) []).viewOf ⟨0, 0⟩).outcome ((evaluating (Bank.default 0) []).group 0).descs[0] 0 = .idle ∧
      ((evaluating (Bank.default 0) []).group 0).state ≠ .quiescing ∧ (evaluating (Bank.default 0) []).ana.queue = [] ∧
      live.ana.engine = none := by decide

/-- A window under each line of R88's table, the MEAN of its conduction channel at the threshold of level L1 and below. -/
theorem test_meets_outcomes :
    ([(0, 2, 655), (1, 2, 655), (0, 0, 655), (0, 2, 654)] : List (Gen × Nat × Int)).map (fun (gen, got, mean) =>
      let s := evaluating { mappedBank with plans := mappedBank.plans.set 0 { Plan.default with tolerance := 1 } }
        [(0, mean), (1, mean)]
      ((s.viewOf ⟨0, 0⟩).outcome { (s.group 0).descs[0] with received := Vector.replicate 8 got } gen)) =
      [.checked, .stalePlan, .incomplete, .idle] := by decide

theorem test_meets_CheckedWindowStepsLimitsAndLatch :
    ((evaluating mappedBank [(0, 1000), (1, 1000)]).viewOf ⟨0, 0⟩).outcome
        ((evaluating mappedBank [(0, 1000), (1, 1000)]).group 0).descs[0] 0 = .checked ∧
      ((evaluating mappedBank [(0, 1000), (1, 1000)]).group 0).state ≠ .quiescing ∧
      (evaluating mappedBank [(0, 1000), (1, 1000)]).pins.alert = false ∧
      anyTrip (evaluating mappedBank [(0, 1000), (1, 1000)]).latches = false ∧
      (evaluating mappedBank [(0, 1000), (1, 1000)]).mgmt.commit = none := by decide

/-! ## Hypotheses: events, timers, records, requests -/

theorem test_meets_RaisingPendsAndStacks :
    (round0.stack .sourceGap).length < 4 ∧
      4 ≤ ((round0.setStack .sourceGap (List.replicate 4 (.sourceGap 2 1 1))).stack .sourceGap).length := by decide

theorem test_meets_SelectionDispatchesInRotation :
    live.pins.held = none ∧ live.disp.slot = none ∧ live.links.c.link = .up ∧
      (rotation (live.raise .linkDown).disp.last).find?
        (fun j => (live.raise .linkDown).disp.eligible (live.raise .linkDown).mgmt.active j) = some .linkDown ∧
      EventKind.linkDown.detailKind = none ∧ round0.stack .sourceGap = [.sourceGap 2 253 2] ∧
      loaded.disp.slot ≠ none ∧ confirming.links.c.link ≠ .up := by decide

/-- The live part with group 0 TRACKING and a commit accepted, no other group's windows in its way. -/
def pendingCommit : State := (liveGroup openOne).acceptCommit
/-- The same with an old window in evaluation, which keeps the commit pending past its timeout. -/
def stillPending : State :=
  let s := (liveGroup (fun x => (openOne x).setDesc 1 (windowIn .evaluating 0 65436 0))).acceptCommit
  { s with ana := { s.ana with engine := some ⟨⟨0, 1⟩, 400, 0⟩ } }
/-- The timeout completes the one commit and leaves the other pending; a COMMIT without groups in its way completes. -/
theorem test_meets_completion_clauses :
    pendingCommit.commitExpires.mgmt.commit = none ∧ stillPending.commitExpires.mgmt.commit ≠ none ∧
      live.acceptCommit.finish.mgmt.commit = none ∧ pendingCommit.finish.mgmt.commit ≠ none := by decide
theorem test_meets_CommitTimeoutForces :
    pendingCommit.pins.held = none ∧ pendingCommit.mgmt.commit = some ⟨1, 0xFE, some 0, 500, 0⟩ ∧
      pendingCommit.links.markReset = none ∧ pendingCommit.mgmt.restartMark = false ∧ live.mgmt.commit = none := by decide
theorem test_pending_commit_ok : pendingCommit.commitOk := by
  refine ⟨by decide, ?_⟩
  have h : pendingCommit.mgmt.commit = some ⟨1, 0xFE, some 0, 500, 0⟩ := by decide
  rw [h]
  exact ⟨by decide, by decide⟩

theorem test_meets_MarkerEntersWaitsOrMerges :
    live.rep.records.length < 64 ∧ 64 ≤ fullQueue.rep.records.length ∧
      fullQueue.rep.waiting = [] ++ .marker (.groupQuiesced 3) :: [] ∧
      Marker.sameKind (.groupQuiesced 3) (.groupQuiesced 3) = true ∧
      Marker.sameKind (.groupQuiesced 3) (.groupQuiesced 4) = false ∧
      Marker.sameKind (.snapshot true) (.snapshot false) = true := by decide

theorem test_meets_BusyRequestChangesNothing :
    requestOf (.commit 1 2 []) = some ⟨1, 2, 4, []⟩ ∧ restarting.mgmt.request = some ⟨1, 2, 0x0C, [1]⟩ ∧
      restarting.pins.held = none ∧ restarting.links.markReset = none ∧ restarting.links.c.link = .up ∧
      (1 : Addr) ≠ 63 ∧ ([] : List Byte).length ≤ 238 := by decide

theorem test_meets_MalformedRequests :
    requestOf (.commit 1 2 [0]) = some ⟨1, 2, 4, [0]⟩ ∧ envelopeOk 4 [0] = false ∧
      requestOf (.commit 63 2 []) = some ⟨63, 2, 4, []⟩ ∧
      requestOf (.writeStaging 1 2 (List.replicate 239 0)) = some ⟨1, 2, 1, List.replicate 239 0⟩ ∧
      238 < (List.replicate 239 (0 : Byte)).length := by decide

theorem test_meets_HoldReleaseAndExpiry :
    live.pins.held = none ∧ live.mgmt.hold = none ∧ live.commitReady = false ∧ live.mgmt.restartMark = false ∧
      ((0xEA : Byte) ++ (0x60 : Byte)).toNat = 60000 ∧ ((0xEA : Byte) ++ (0x61 : Byte)).toNat = 60001 ∧
      (liveMgmt (fun m => { m with hold := some ⟨true, 0, 1⟩ })).mgmt.hold = some ⟨true, 0, 1⟩ := by decide

theorem test_meets_QuiesceAndResume :
    ((liveGroup openOne).group 0).state ≠ .quiescing ∧ ((liveGroup openOne).group 0).state ≠ .quiesced ∧
      (liveGroup openOne).mgmt.commit = none ∧ (liveGroup openOne).mgmt.restartMark = false ∧
      ((liveGroup openOne).setSnap ⟨.armed ⟨0, .onLimit, [1], 1⟩, emptyBuffer⟩).snap.state = .armed ⟨0, .onLimit, [1], 1⟩ ∧
      ((liveGroup (armed .quiesced)).group 0).state = .quiesced ∧
      ((liveGroup (armed .quiescing)).group 0).state = .quiescing ∧ (0 : Byte) = byte (0 : Group).val ∧
      7 < (8 : Byte).toNat := by decide

/-- A QUIESCING group whose window in evaluation is its last in flight, and one that has another QUEUED. -/
def quiescingAt (last : Bool) : State :=
  let s := (evaluating mappedBank []).modGroup 0 (fun x =>
    { x.setDesc 1 (if last then x.descs[1] else windowIn .queued 2 2 4) with state := .quiescing })
  { s with ana := { s.ana with queue := if last then [] else [⟨0, 1⟩] } }
theorem test_meets_last_window_of_quiescing :
    (quiescingAt true).ana.engine = some ⟨⟨0, 0⟩, 400, 400⟩ ∧ ((quiescingAt true).group 0).state = .quiescing ∧
      (quiescingAt true).mgmt.commit = none ∧ (quiescingAt true).mgmt.hold = none ∧
      ((quiescingAt false).group 0).descs[1].state = .queued ∧ ((quiescingAt false).group 0).state = .quiescing ∧
      ((quiescingAt false).endEvaluation.group 0).state = .quiescing ∧
      (quiescingAt true).endEvaluation.rep.records.map Held.record = [.marker (.groupQuiesced 0)] := by decide

theorem test_meets_RestartAnalysis :
    live.mgmt.commit = none ∧ (livePorts downPort id).links.s.link ≠ .up ∧ live.links.s.link = .up ∧
      pendingCommit.mgmt.commit ≠ none ∧ 1 < (2 : Byte).toNat := by decide

theorem test_meets_StagingRequests :
    (2 : Byte) ≠ 0 ∧ [0, 1, 3, 2].length = (2 : Byte).toNat * TableId.eventTable.entrySize ∧
      TableId.eventTable.size < (15 : Byte).toNat + (2 : Byte).toNat ∧
      (14 : Byte).toNat + (2 : Byte).toNat ≤ TableId.eventTable.size ∧
      (readEntries EventEntry.read 14 [[0, 1], [4, 2]] = .error 15) ∧
      (readEntries EventEntry.read 14 [[0, 1], [3, 2]] = .ok [⟨0, .polled⟩, ⟨3, .list⟩]) := by
  refine ⟨by decide, by decide, by decide, by decide, rfl, rfl⟩

theorem test_meets_CommitIsJudgedAndAccepted :
    live.mgmt.commit = none ∧ live.mgmt.staging.failure = none ∧ live.mgmt.restartMark = false ∧
      pendingCommit.mgmt.commit ≠ none := by decide

/-- A bank that each check of COMMIT stops at first, with the index it is reported under, and one that passes (R175). -/
theorem test_meets_commit_checks :
    let on : Plan := { Plan.default with enabled := true }
    let worn : MeasureRef := ⟨1, .rippleRatio, 0⟩
    ([{ mappedBank with channelMap := mappedBank.channelMap.set 2 { currentEntry with chan := 5 } },
      { mappedBank with plans := mappedBank.plans.set 1 on },
      { mappedBank with plans := mappedBank.plans.set 0 { on with orders := [3, 3] } },
      { mappedBank with plans := mappedBank.plans.set 0 { on with measures := [worn] } },
      { mappedBank with limits := mappedBank.limits.set 95 { LimitEntry.default with valid := true, ref := worn } },
      { mappedBank with signatures := mappedBank.signatures.set 31 { Signature.default with valid := true } },
      { mappedBank with settings := { Settings.default 0 with staleMs := 1 } },
      { mappedBank with plans := mappedBank.plans.set 0 on }] : List Bank).map Bank.failure =
      [some (.channelMap, 2), some (.groupPlan, 1), some (.groupPlan, 0), some (.groupPlan, 0), some (.limit, 95),
        some (.signature, 31), some (.partSettings, 0), none] := by decide

theorem test_meets_ArmSnapshot :
    1 ≤ [0, (7 : Byte)].length ∧ live.snap.state = .empty ∧ [0, (7 : Byte)].Nodup ∧
      [0, (7 : Byte)] = ([0, 7] : List Chan).map (fun c => byte c.val) ∧ (5 : Byte) = Trigger.code .onLimit := by decide

/-- A capture of two ticks of one channel. -/
def captured : SnapState := .ready ⟨0, .nextWindow, [1], 0⟩ ⟨1, 0, 2, .checked, 0⟩
theorem test_meets_ReadAndReleaseSnapshot :
    { live with snap := ⟨captured, emptyBuffer⟩ }.snap.state = captured ∧ 1 ≤ (16 : Byte).toNat ∧
      (16 : Byte).toNat ≤ 16 ∧ (176 : Byte).toNat + (16 : Byte).toNat ≤ 192 ∧ live.snap.state = .empty := by decide

theorem test_meets_ReadRequestsAnswerAndKeep :
    (7 : Byte) = byte (7 : Group).val ∧ 7 < (8 : Byte).toNat ∧ (3 : Byte) = TableId.code .limit ∧
      1 ≤ (18 : Byte).toNat ∧ (78 : Byte).toNat + (18 : Byte).toNat ≤ TableId.limit.size ∧
      (18 : Byte).toNat * TableId.limit.entrySize ≤ 236 ∧ 236 < (19 : Byte).toNat * TableId.limit.entrySize ∧
      TableId.limit.size < (79 : Byte).toNat + (18 : Byte).toNat := by decide

theorem test_meets_scaling :
    Int.tdiv ((32767 - 0) * 4096) 4096 = 32767 ∧ Int.tdiv ((-32768 - 0) * 4096) 4096 < -32767 ∧
      (32767 : Int) < Int.tdiv ((32767 - (-1)) * 4096) 4096 := by decide

theorem test_meets_LimitClassesAndMoves :
    above.direction = .above ∧ { above with direction := .below }.direction = .below ∧ above.limit ≤ 65535 ∧
      1 ≤ above.raiseCount ∧ 1 ≤ above.clearCount ∧ 1 ≤ 2 ∧ 2 < above.raiseCount := by decide

theorem test_meets_WrittenEntriesStandInOrder :
    readEntries EventEntry.read 14 [[0, 1], [3, 2]] = .ok [⟨0, .polled⟩, ⟨3, .list⟩] ∧
      readEntries EventEntry.read 14 [[0, 1], [4, 2]] = .error 15 := ⟨rfl, rfl⟩

theorem test_meets_EntriesReadBackAsWritten :
    MapEntry.read refEntry.encode = some refEntry ∧ Plan.read Plan.default.encode = some Plan.default ∧ LimitEntry.read above.encode = some above ∧
      Signature.read Signature.default.encode = some Signature.default ∧
      EventEntry.read [3, 2] = some ⟨3, .list⟩ ∧ Route.read [1, 62] = some ⟨true, 62⟩ ∧ Route.read [1, 63] = none := by
  decide

/-! ## Hypotheses: invariants -/

theorem test_meets_StepKeepsQueuesSound : live.Sound ∧ step live = .next live.clockTick := by
  refine ⟨⟨⟨by decide, by decide, by decide, by decide⟩, ?_, rfl, by decide, by decide, by decide⟩, rfl⟩
  intro k
  cases k <;> decide

theorem test_meets_StepKeepsWindowsSound :
    (liveGroup openOne).WindowsOk ∧ step (liveGroup openOne) = .next (liveGroup openOne).clockTick :=
  ⟨test_windows_ok, rfl⟩

theorem test_pending_vectors_ok : pendingCommit.vectorsOk := by
  unfold State.vectorsOk
  decide

theorem test_meets_StepKeepsChecksSound :
    pendingCommit.ChecksOk ∧ step pendingCommit = .next pendingCommit.clockTick :=
  ⟨⟨test_pending_commit_ok, test_pending_vectors_ok⟩, rfl⟩

theorem test_meets_StepLeavesNothingUnjudged :
    pendingCommit.Settled ∧ step pendingCommit = .next pendingCommit.clockTick := by
  refine ⟨⟨by decide, ?_, ?_, ?_, by decide⟩, rfl⟩
  · intro h hh
    have hn : pendingCommit.mgmt.hold = none := by decide
    rw [hn] at hh
    cases hh
  · intro m hm
    have hn : pendingCommit.links.markReset = none := by decide
    rw [hn] at hm
    cases hm
  · intro hr
    have hn : pendingCommit.mgmt.restartMark = false := by decide
    rw [hn] at hr
    cases hr

/-! ## A few whole commands -/

/-- A request is answered, and its reply is the queue's record (R155, R188). -/
theorem test_ack_replies :
    exec (.ackEvents 4 9 [0xFF, 0xFF]) live =
      .next { live.answered ⟨4, 9, 0x10, [0xFF, 0xFF]⟩ .done [] with disp := live.disp } := by rfl

/-- READ_STATUS carries 37 bytes (R188). -/
theorem test_status_length : (live.taken ⟨1, 1, 9, []⟩).statusData.length = 37 := by decide

/-- Samples of node 3 reach no group while no entry delivers them, and the frame is forwarded (R26, R48). -/
theorem test_sample_forwarded : (State.classifyS (sampleFrame 7) live).fwd.sToC = [sampleFrame 7] ∧
    (State.classifyS (sampleFrame 7) live).sources[2] = ⟨.tracking, some 8, some 0, 0, 0, 0⟩ := by decide

/-- A step takes the command in front of the queue. -/
theorem test_step_takes_front : ∃ t, step { live with pending := [.lossOfSignal .c, .maskTimerExpiry] } = .next t ∧
    t.pending = [.maskTimerExpiry] ∧ (t.port .c).link = .down := ⟨_, rfl, by decide⟩

end Sys2Proof.Tests
end

section
/-! Received frames and the Source Table: what a sample payload's form is (R22), and what the receivers leave of the
Source Table when the Frame Classifier does (R19, R21). -/

namespace Sys2Proof.Machine

/-- R22, clause by clause. -/
theorem sampleWellFormed_iff (p : List Byte) : sampleWellFormed p = true ↔
    4 ≤ p.length ∧ 1 ≤ (byteAt p 2).toNat ∧ (byteAt p 2).toNat ≤ 4 ∧ 1 ≤ (byteAt p 3).toNat ∧ (byteAt p 3).toNat ≤ 8 ∧
      p.length = 4 + 2 * (byteAt p 2).toNat * (byteAt p 3).toNat := by
  simp [sampleWellFormed, and_assoc]

namespace State

@[simp] theorem raise_sources (s : State) (k : EventKind) : (s.raise k).sources = s.sources := rfl

@[simp] theorem modPort_sources (s : State) (p : Port) (f : PortState → PortState) :
    (s.modPort p f).sources = s.sources := by
  cases p <;> rfl

@[simp] theorem enterUp_sources (s : State) (p : Port) : (s.enterUp p).sources = s.sources := by
  cases p <;> rfl

@[simp] theorem offerSToC_sources (s : State) (frame : List Byte) : (s.offerSToC frame).sources = s.sources := by
  unfold offerSToC
  split
  · split
    · exact setFwd_sources _ _
    · exact raise_sources _ _
  · rfl

/-- The Frame Classifier hands the Source Tracker nothing but a well-formed sample payload (R21, R22). -/
theorem classifyS_sources_of_malformed_payload {frame : List Byte} (hp : sampleWellFormed (payload frame) = false)
    (s : State) : (classifyS frame s).sources = s.sources := by
  unfold classifyS
  split
  case isTrue => simp
  case isFalse =>
    split
    · simp [hp]
    · simp

/-- The receiver itself never touches the Source Table: what it leaves of it is the handler's doing. -/
theorem received_sources (s : State) (p : Port) {handle : State → State}
    (hh : ∀ t : State, (handle t).sources = t.sources) : (s.received p handle).sources = s.sources := by
  unfold received
  split
  case isTrue => rfl
  case isFalse =>
    split
    case h_1 => dsimp only; split <;> simp [hh]
    case h_2 => dsimp only; split <;> simp [hh]
    all_goals rfl

/-- A good frame that is not a link control frame goes to the classifier (R19, R21, R23). -/
theorem frameArrives_eq_received {frame : List Byte} (hc : goodCheck frame = true)
    (hk : kindByte frame ≠ kindLinkControl) (s : State) (p : Port) (classify : List Byte → State → State) :
    s.frameArrives p frame classify = s.received p (classify frame) := by
  simp [frameArrives, hc, hk]

end State

/-- Settles O27: R22 is `sampleWellFormed_iff`, and a good SAMPLE frame reaches the classifier through the receiver,
neither of which touches the Source Table when the payload is malformed. -/
theorem samplePayloadForm : Obligations.SamplePayloadForm := by
  refine ⟨sampleWellFormed_iff, fun s frame hc _ hk hp => ⟨_, rfl, ?_⟩⟩
  have hkind : kindByte frame ≠ kindLinkControl := by rw [hk]; decide
  rw [State.frameArrives_eq_received hc hkind]
  exact s.received_sources .s (State.classifyS_sources_of_malformed_payload hp)

end Sys2Proof.Machine
end

section
/-! The Event Dispatcher's eligibility (R136), and what ACK_EVENTS leaves (R144): the answer to a taken request touches
no dispatcher state, so what the action has written there stands beside the reply. -/

namespace Sys2Proof.Machine

/-- Settles O38: the second factor of `Dispatcher.eligible` is the negation of R136's three conditions together. -/
theorem eligibilityFollowsTable : Obligations.EligibilityFollowsTable := by
  intro d b k
  have hexcepted : (!KindSet.has d.mask k && b.sendMode k == .polled && KindSet.has d.status k) = true ↔
      KindSet.has d.mask k = false ∧ b.sendMode k = .polled ∧ KindSet.has d.status k = true := by
    simp [and_assoc]
  rw [Dispatcher.eligible, Bool.and_eq_true, Bool.not_eq_true', ← Bool.not_eq_true, hexcepted]

/-- A taken request that has written the dispatcher and is then answered (R155, R167). -/
theorem State.answer_setDisp_taken (s : State) (r : Request) (x : Dispatcher) (st : Status) (data : List Byte) :
    ((s.taken r).setDisp x).answer r st data = { s.answered r st data with disp := x } := by
  rw [State.answer_spec, ← State.answer_taken, State.answer_spec]
  rfl

/-- ACK_EVENTS once taken (R144). -/
theorem doAckEvents_taken (s : State) (r : Request) :
    doAckEvents r (s.taken r) = { s.answered r .done [] with
      disp := { s.disp with status := s.disp.status &&& ~~~r.kinds } } :=
  s.answer_setDisp_taken r { s.disp with status := s.disp.status &&& ~~~r.kinds } .done []

/-- Settles O44: the request's envelope is two bytes long, so it is taken, and `doAckEvents_taken` says what it leaves. -/
theorem ackEventsClearsStatus : Obligations.AckEventsClearsStatus := by
  intro s source seq hi lo ⟨hears, hfree⟩ hsource
  have harrives := s.requestArrives_ready hears hfree ⟨source, seq, 0x10, [hi, lo]⟩ doAckEvents hsource
    (show 2 ≤ 238 by decide) rfl
  exact congrArg Host.Outcome.next (harrives.trans (doAckEvents_taken s _))

end Sys2Proof.Machine
end

section
/-! What a command and a step do, said once: no command faults or is refused, and the twenty-one request rows are one
operation on the request they carry. Every statement about all steps is read off this. -/

namespace Sys2Proof.Machine

/-- A request row is the arrival of the request it carries, with the action of its code (log 6). -/
theorem exec_request {i : Instr} {r : Request} (h : requestOf i = some r) (s : State) :
    exec i s = .next (s.requestArrives r (actionOf r.code)) := by
  cases i <;> simp only [requestOf, reduceCtorEq, Option.some.injEq] at h <;> subst h <;> rfl

/-- The state a command leaves. -/
def State.after (s : State) : Instr → State
  | .powerApplied straps => s.powerUp straps
  | .resetNLow => s.resetLow
  | .resetNHigh => s.resetHigh
  | .linkControlReceived p body => s.linkControl p body
  | .badCheckFrame p => s.badCheck p
  | .lossOfSignal p => s.signalLost p
  | .phaseMinimumReached p => s.minimumReached p
  | .phaseDeadline p => s.deadlineReached p
  | .settleTimerExpiry p => s.settleExpires p
  | .retryAttempt p => s.retryStarts p
  | .resetMarkReceived p m => s.markArrives p m
  | .markTransmissionEnd => s.markEnds
  | .maskTimerExpiry => s.maskExpires
  | .portSFrameReceived frame => s.frameArrives .s frame State.classifyS
  | .staleTimeout n => s.running (fun s => s.staleTimeout n)
  | .portCFrameReceived frame => s.frameArrives .c frame State.classifyC
  | .portCFrameEnd => s.endFrameC
  | .portSFrameEnd => s.endFrameS
  | .resetPartReplyEnd => s.endResetPartReply
  | .evaluationEnd => s.running State.endEvaluation
  | .eventSelection => s.running select
  | .commitTimeout => s.running State.commitExpires
  | .holdExpiry => s.running State.holdExpires
  | i => ((requestOf i).map (fun r => s.requestArrives r (actionOf r.code))).getD s

/-- Every command is answered with a next state. -/
theorem exec_eq_next (i : Instr) (s : State) : exec i s = .next (s.after i) := by
  cases i <;> rfl

/-- A step leaves what the front command leaves of the state with the queue's rest, or what a unit of time does. -/
theorem step_cases {s t : State} (h : step s = .next t) :
    (s.pending = [] ∧ t = s.clockTick) ∨
      ∃ (i : Instr) (rest : List Instr), s.pending = i :: rest ∧ t = (s.setPending rest).after i := by
  unfold step at h
  split at h
  next hp => exact .inl ⟨hp, (Host.Outcome.next.inj h).symm⟩
  next i rest hp =>
    rw [exec_eq_next] at h
    exact .inr ⟨i, rest, hp, (Host.Outcome.next.inj h).symm⟩

/-- A property that the passing of time, every change of the queue and every command keep is kept by every step. -/
theorem step_keeps {P : State → Prop} (tick : ∀ s : State, P s → P s.clockTick)
    (queue : ∀ (s : State) (x : List Instr), P s → P (s.setPending x)) (command : ∀ (s : State) (i : Instr), P s → P (s.after i))
    {s t : State} (hs : P s) (h : step s = .next t) : P t := by
  obtain ⟨-, rfl⟩ | ⟨i, rest, -, rfl⟩ := step_cases h
  · exact tick s hs
  · exact command _ i (queue s rest hs)

/-- Settles O1: the step reads the queue and nothing else. -/
theorem stepRunsFrontCommand : Obligations.StepRunsFrontCommand := fun _ _ _ => rfl

/-! ## The queues (R26 to R28, R118, R127, R152, R157) -/

theorem State.Sound.after {s : State} (h : s.Sound) (i : Instr) : (s.after i).Sound := by
  cases i with
  | powerApplied straps => exact h.powerUp straps
  | resetNLow => exact h.resetLow
  | resetNHigh => exact h.resetHigh
  | linkControlReceived p body => exact h.linkControl p body
  | badCheckFrame p => exact h.badCheck p
  | lossOfSignal p => exact h.signalLost p
  | phaseMinimumReached p => exact h.minimumReached p
  | phaseDeadline p => exact h.deadlineReached p
  | settleTimerExpiry p => exact h.settleExpires p
  | retryAttempt p => exact h.retryStarts p
  | resetMarkReceived p m => exact h.markArrives p m
  | markTransmissionEnd => exact h.markEnds
  | maskTimerExpiry => exact h.maskExpires
  | portSFrameReceived frame => exact h.frameArrives .s frame (fun _ ht => ht.classifyS frame)
  | staleTimeout n => exact h.running (h.staleTimeout n)
  | portCFrameReceived frame => exact h.frameArrives .c frame (fun _ ht => ht.classifyC frame)
  | portCFrameEnd => exact h.endFrameC
  | portSFrameEnd => exact h.endFrameS
  | resetPartReplyEnd => exact h.endResetPartReply
  | evaluationEnd => exact h.running h.endEvaluation
  | eventSelection => exact h.running h.select
  | commitTimeout => exact h.running h.commitExpires
  | holdExpiry => exact h.running h.holdExpires
  | _ => exact h.requestArrives _ (fun _ ht => ht.actionOf _ _)

/-- Settles O57: `State.Sound` is kept by the clock, by the queue's change and by every command. -/
theorem stepKeepsQueuesSound : Obligations.StepKeepsQueuesSound := fun _ _ hs h =>
  step_keeps (P := State.Sound) (fun _ ht => ht.clockTick) (fun _ x ht => ht.setPending x) (fun _ i ht => ht.after i) hs h

end Sys2Proof.Machine
end

section
/-! The clock (log 4), the full reset's values, the event requests on the raw status and the mask, and raising. -/

namespace Sys2Proof.Machine

/-! ## Rows -/

@[simp] theorem getElem_vmap {α β : Type} {n : Nat} (f : α → β) (v : Vector α n) (i : Nat) (hi : i < n) :
    (vmap f v)[i] = f v[i] := by
  simp [vmap_eq_map]

/-! ## The clock -/

/-- One unit of time on a port (R2 to R4, R8), the limits in units of 50 ns. -/
theorem PortState.tick_eq (x : PortState) : x.tick = { x with
    phase := x.phase.map (tickTo (if x.link = .seek ∧ x.attempt = true then 100000 else 80000))
    settle := x.settle.map (tickTo 2000)
    retry := x.retry.map (tickTo 5000000) } := by
  simp [PortState.tick, PortState.deadline, Config.attemptDeadline, Config.phaseDeadline, Config.settleTime,
    Config.retryInterval, Config.unitsPerMs, Config.unitsPerUs]

/-- Settles O2: `clockTick` block by block, each port by `PortState.tick_eq`. -/
theorem idleStepAdvancesTimersOnly : Obligations.IdleStepAdvancesTimersOnly := by
  intro s hq count port masked
  have hstep : step s = .next s.clockTick := by rw [step, hq]
  rw [hstep, State.clockTick]
  refine ⟨fun hheld => ?_, fun hheld => ?_⟩
  · have : s.isHeld = true := Option.isSome_iff_ne_none.mpr hheld
    rw [this]
    rfl
  · have : s.isHeld = false := by simp [State.isHeld, hheld]
    simp only [this, Bool.false_eq_true, if_false, State.tickMgmt, State.tickEngine, State.tickSources, State.tickPorts,
      PortState.tick_eq, vmap_eq_map]
    rfl

/-! ## Resets -/

/-- Settles O3: `State.fullReset` block by block. -/
theorem fullResetValues : Obligations.FullResetValues := by
  intro queue straps mask cause t address
  have hport : ∀ p : Port, t.port p = PortState.reset address := by
    intro p
    cases p <;> rfl
  refine ⟨rfl, rfl, hport, rfl, rfl, rfl, rfl, rfl, rfl, ?_, ?_, rfl, rfl, ?_, rfl, rfl, rfl, rfl, rfl, rfl, rfl, rfl, rfl,
    ?_, ?_, ?_, ?_, ?_, ?_, rfl, rfl, ?_⟩
  · intro n
    exact Vector.getElem_replicate n.isLt
  · intro g
    have hgroup : t.group g = GroupCtx.reset .off 0 := Vector.getElem_replicate g.isLt
    rw [hgroup]
    refine ⟨rfl, rfl, rfl, rfl, rfl, rfl, rfl, fun c => ⟨?_, ?_⟩, fun d => ?_, ?_, ?_, ?_⟩
    all_goals exact Vector.getElem_replicate _
  · intro i
    exact Vector.getElem_replicate i.isLt
  all_goals intros; simp [t, State.fullReset, Management.reset, Bank.default, MapEntry.default, Plan.default,
    LimitEntry.default, Signature.default, EventEntry.default, Route.default, SnapshotUnit.reset, emptyBuffer]

/-! ## The event requests -/

theorem doClearRaw_taken (s : State) (r : Request) :
    doClearRaw r (s.taken r) = { s.answered r .done [] with
      disp := { s.disp with raw := s.disp.raw &&& ~~~r.kinds } } :=
  s.answer_setDisp_taken r { s.disp with raw := s.disp.raw &&& ~~~r.kinds } .done []

theorem doSetMask_taken (s : State) (r : Request) :
    doSetMask r (s.taken r) = { s.answered r .done [] with
      disp := { s.disp with mask := s.disp.mask ||| r.kinds } } :=
  s.answer_setDisp_taken r { s.disp with mask := s.disp.mask ||| r.kinds } .done []

theorem doClearMask_taken (s : State) (r : Request) :
    doClearMask r (s.taken r) = { s.answered r .done [] with
      disp := { s.disp with mask := s.disp.mask &&& ~~~r.kinds } } :=
  s.answer_setDisp_taken r { s.disp with mask := s.disp.mask &&& ~~~r.kinds } .done []

/-- A request row whose request is taken: it acts once it is in the request buffer (R167, R168). -/
theorem exec_taken {i : Instr} {r : Request} (hi : requestOf i = some r) {s : State} (hs : s.takesRequests)
    (hsource : r.source ≠ 63) (hlength : r.params.length ≤ 238) (henvelope : envelopeOk r.code r.params = true) :
    exec i s = .next (actionOf r.code r (s.taken r)) := by
  rw [exec_request hi, s.requestArrives_ready hs.1 hs.2 r _ hsource hlength henvelope]

/-- Settles O45: each request's envelope is two bytes long, so it is taken, and its action writes one set and answers. -/
theorem eventRequestsChangeOneSet : Obligations.EventRequestsChangeOneSet := by
  intro s source seq hi lo hs hsource
  refine ⟨?_, ?_, ?_⟩
  · rw [exec_taken rfl hs hsource (by show 2 ≤ 238; decide) rfl]
    exact congrArg Host.Outcome.next (doClearRaw_taken s _)
  · rw [exec_taken rfl hs hsource (by show 2 ≤ 238; decide) rfl]
    exact congrArg Host.Outcome.next (doSetMask_taken s _)
  · rw [exec_taken rfl hs hsource (by show 2 ≤ 238; decide) rfl]
    exact congrArg Host.Outcome.next (doClearMask_taken s _)

/-! ## Raising -/

/-- Settles O37: R127's two cases are the two branches of `Dispatcher.raiseDetail`. -/
theorem raisingPendsAndStacks : Obligations.RaisingPendsAndStacks := by
  intro d k dk e
  refine ⟨rfl, fun hroom => ?_, fun hfull => ?_⟩
  · have : (d.stack dk).length < Config.stackEntries := hroom
    rw [Dispatcher.raiseDetail, if_pos this, Dispatcher.raise, Dispatcher.pending_setStack]
    rfl
  · have : ¬ (d.stack dk).length < Config.stackEntries := Nat.not_lt.mpr hfull
    rw [Dispatcher.raiseDetail, if_neg this]
    rfl

end Sys2Proof.Machine
end

section
/-! The Window Engine's operations: what each leaves alone. An operation that is no switch changes the groups' windows, the
Evaluation Queue and the engine, and may raise events (`State.WindowStep`); nothing else of the part moves. -/

namespace Sys2Proof.Machine

/-! ## Groups and descriptors -/

theorem State.group_modGroup (s : State) (g h : Group) (f : GroupCtx → GroupCtx) :
    (s.modGroup g f).group h = if h = g then f (s.group g) else s.group h := by
  split
  next e => subst e; exact s.group_setGroup _ _
  next e => exact s.group_setGroup_ne _ e

@[simp] theorem State.group_modGroup_self (s : State) (g : Group) (f : GroupCtx → GroupCtx) :
    (s.modGroup g f).group g = f (s.group g) := s.group_setGroup _ _

theorem State.group_modGroup_ne (s : State) {g h : Group} (f : GroupCtx → GroupCtx) (hn : h ≠ g) :
    (s.modGroup g f).group h = s.group h := s.group_setGroup_ne _ hn

theorem GroupCtx.descs_setDesc (x : GroupCtx) (d e : Desc) (w : Descriptor) :
    (x.setDesc d w).descs[e] = if e = d then w else x.descs[e] := by
  have : (d.val = e.val) ↔ e = d := ⟨fun h => Fin.ext h.symm, fun h => by rw [h]⟩
  simp [GroupCtx.setDesc, Vector.getElem_set, this]

/-- Freeing a descriptor touches descriptors and store only. -/
theorem GroupCtx.freeDesc_eq (x : GroupCtx) (d : Desc) :
    ∃ store, x.freeDesc d = { x.setDesc d Descriptor.free with store := store } := by
  unfold GroupCtx.freeDesc
  dsimp only
  split
  · exact ⟨_, rfl⟩
  · exact ⟨(x.setDesc d Descriptor.free).store, rfl⟩

theorem GroupCtx.descs_freeDesc (x : GroupCtx) (d e : Desc) :
    (x.freeDesc d).descs[e] = if e = d then Descriptor.free else x.descs[e] := by
  obtain ⟨store, h⟩ := x.freeDesc_eq d
  rw [h]
  exact x.descs_setDesc d e _

/-- There is no descriptor in a state exactly when none is found. -/
theorem GroupCtx.descIn_eq_none_iff (x : GroupCtx) (st : DescState) :
    x.descIn st = none ↔ ∀ d : Desc, x.descs[d].state ≠ st := by
  have absent : ∀ f : Desc → Bool, all3.find? f = none ↔ ∀ d : Desc, ¬ f d = true := by decide
  rw [GroupCtx.descIn, absent]
  simp only [beq_iff_eq, ne_eq]

theorem GroupCtx.state_of_descIn {x : GroupCtx} {st : DescState} {d : Desc} (h : x.descIn st = some d) :
    x.descs[d].state = st := ((x.descIn_eq_some_iff st d).mp h).1

theorem GroupCtx.freeDesc_gen (x : GroupCtx) (d : Desc) : (x.freeDesc d).gen = x.gen := by
  obtain ⟨store, h⟩ := x.freeDesc_eq d
  rw [h]; rfl

theorem GroupCtx.place_gen (x : GroupCtx) (c : Chan) (t : Tick) (v : Int) : (x.place c t v).gen = x.gen := by
  unfold GroupCtx.place
  split
  · rfl
  · dsimp only
    split
    · rfl
    · split <;> rfl

theorem GroupCtx.advance_gen (x : GroupCtx) (c : Chan) (t : Tick) : (x.advance c t).gen = x.gen := by
  unfold GroupCtx.advance
  split <;> rfl

theorem GroupCtx.seekOrOff_gen (x : GroupCtx) (p : Plan) : (x.seekOrOff p).gen = x.gen := by
  unfold GroupCtx.seekOrOff
  split <;> rfl

namespace State

/-- The state of a window's descriptor. -/
def stateOf (s : State) (w : WinRef) : DescState := (s.group w.group).descs[w.desc].state

theorem stateOf_modGroup (s : State) (g : Group) (f : GroupCtx → GroupCtx) (w : WinRef) :
    (s.modGroup g f).stateOf w =
      if w.group = g then ((f (s.group g)).descs[w.desc]).state else s.stateOf w := by
  unfold stateOf
  rw [group_modGroup]
  split <;> rfl

/-- A change of a group that keeps its descriptors' states keeps every descriptor's. -/
theorem stateOf_modGroup_same (s : State) (g : Group) {f : GroupCtx → GroupCtx}
    (hf : ∀ d : Desc, (f (s.group g)).descs[d].state = (s.group g).descs[d].state) (w : WinRef) :
    (s.modGroup g f).stateOf w = s.stateOf w := by
  rw [stateOf_modGroup]
  split
  next e => rw [hf, ← e]; rfl
  next => rfl

theorem WinRef.eq_iff {v w : WinRef} : v = w ↔ v.group = w.group ∧ v.desc = w.desc := by
  cases v; cases w; simp

/-- A change of one descriptor of a group is a change of one window's descriptor. -/
theorem stateOf_modGroup_desc (s : State) (w v : WinRef) {f : GroupCtx → GroupCtx} {x : Descriptor}
    (hf : ∀ d : Desc, (f (s.group w.group)).descs[d] = if d = w.desc then x else (s.group w.group).descs[d]) :
    (s.modGroup w.group f).stateOf v = if v = w then x.state else s.stateOf v := by
  rw [stateOf_modGroup]
  split
  next hg =>
    have : v = w ↔ v.desc = w.desc := by rw [WinRef.eq_iff]; exact and_iff_right hg
    rw [hf]
    simp only [this]
    split
    · rfl
    · rw [stateOf, hg]
  next hg => rw [if_neg (fun e => hg (congrArg WinRef.group e))]

theorem stateOf_setDescState (s : State) (w v : WinRef) (st : DescState) :
    (s.setDescState w st).stateOf v = if v = w then st else s.stateOf v :=
  s.stateOf_modGroup_desc w v
    (f := fun x => x.setDesc w.desc { x.descs[w.desc] with state := st })
    (x := { (s.group w.group).descs[w.desc] with state := st }) (fun d => GroupCtx.descs_setDesc _ _ d _)

theorem stateOf_freeDesc (s : State) (w v : WinRef) :
    (s.freeDesc w).stateOf v = if v = w then .free else s.stateOf v :=
  s.stateOf_modGroup_desc w v (f := fun x => x.freeDesc w.desc) (x := Descriptor.free)
    (GroupCtx.descs_freeDesc _ _)

/-! ## What a step of the Window Engine leaves alone -/

/-- Only the groups' windows, the Evaluation Queue, the engine and the event flags have changed, and no flag is lost. -/
structure WindowStep (t s : State) : Prop where
  rest : { t with ana := s.ana, disp := s.disp } = s
  verdicts : t.ana.lastVerdicts = s.ana.lastVerdicts
  gens : ∀ g : Group, (t.group g).gen = (s.group g).gen
  raised : ∀ k : EventKind, KindSet.has s.disp.pending k = true → KindSet.has t.disp.pending k = true

namespace WindowStep

variable {s t u : State}

theorem pending (h : t.WindowStep s) : t.pending = s.pending := (congrArg State.pending h.rest :)
theorem pins (h : t.WindowStep s) : t.pins = s.pins := (congrArg State.pins h.rest :)
theorem links (h : t.WindowStep s) : t.links = s.links := (congrArg State.links h.rest :)
theorem fwd (h : t.WindowStep s) : t.fwd = s.fwd := (congrArg State.fwd h.rest :)
theorem sources (h : t.WindowStep s) : t.sources = s.sources := (congrArg State.sources h.rest :)
theorem chk (h : t.WindowStep s) : t.chk = s.chk := (congrArg State.chk h.rest :)
theorem latches (h : t.WindowStep s) : t.latches = s.latches := (congrArg State.latches h.rest :)
theorem rep (h : t.WindowStep s) : t.rep = s.rep := (congrArg State.rep h.rest :)
theorem mgmt (h : t.WindowStep s) : t.mgmt = s.mgmt := (congrArg State.mgmt h.rest :)
theorem snap (h : t.WindowStep s) : t.snap = s.snap := (congrArg State.snap h.rest :)

theorem refl (s : State) : s.WindowStep s := ⟨rfl, rfl, fun _ => rfl, fun _ hk => hk⟩

theorem trans (h : u.WindowStep t) (k : t.WindowStep s) : u.WindowStep s where
  rest := by rw [← k.rest, ← h.rest]
  verdicts := h.verdicts.trans k.verdicts
  gens g := (h.gens g).trans (k.gens g)
  raised x hx := h.raised x (k.raised x hx)

end WindowStep

theorem raised_raise (s : State) (k j : EventKind) (h : KindSet.has s.disp.pending j = true) :
    KindSet.has (s.raise k).disp.pending j = true := by
  simp [State.raise, Dispatcher.raise, KindSet.has_set, h]

theorem raised_raise_self (s : State) (k : EventKind) : KindSet.has (s.raise k).disp.pending k = true := by
  simp [State.raise, Dispatcher.raise, KindSet.has_set]

theorem windowStep_raise (s : State) (k : EventKind) : (s.raise k).WindowStep s :=
  ⟨rfl, rfl, fun _ => rfl, s.raised_raise k⟩

theorem raised_raiseDetail (s : State) (k : DetailKind) (e : Detail) (j : EventKind)
    (h : KindSet.has s.disp.pending j = true) : KindSet.has (s.raiseDetail k e).disp.pending j = true := by
  simp only [State.raiseDetail, Dispatcher.raiseDetail, setDisp_disp]
  split <;> simp [Dispatcher.raise, KindSet.has_set, h]

theorem raised_raiseDetail_self (s : State) (k : DetailKind) (e : Detail) :
    KindSet.has (s.raiseDetail k e).disp.pending k.kind = true := by
  simp only [State.raiseDetail, Dispatcher.raiseDetail, setDisp_disp]
  split <;> simp [Dispatcher.raise, KindSet.has_set]

theorem windowStep_raiseDetail (s : State) (k : DetailKind) (e : Detail) : (s.raiseDetail k e).WindowStep s :=
  ⟨rfl, rfl, fun _ => rfl, s.raised_raiseDetail k e⟩

/-- A change of a group that keeps its generation is a step of the Window Engine. -/
theorem windowStep_modGroup (s : State) (g : Group) {f : GroupCtx → GroupCtx} (hf : (f (s.group g)).gen = (s.group g).gen) :
    (s.modGroup g f).WindowStep s := by
  refine ⟨rfl, rfl, fun h => ?_, fun _ hk => hk⟩
  rw [group_modGroup]
  split
  next e => rw [hf, e]
  next => rfl

/-- The Evaluation Queue and the engine replaced. -/
theorem windowStep_setAna (s : State) (queue : List WinRef) (engine : Option Evaluation) :
    (s.setAna { s.ana with queue := queue, engine := engine }).WindowStep s :=
  ⟨rfl, rfl, fun _ => rfl, fun _ hk => hk⟩

theorem windowStep_setDescState (s : State) (w : WinRef) (st : DescState) : (s.setDescState w st).WindowStep s :=
  s.windowStep_modGroup _ rfl

theorem windowStep_freeDesc (s : State) (w : WinRef) : (s.freeDesc w).WindowStep s :=
  s.windowStep_modGroup _ (GroupCtx.freeDesc_gen _ _)

theorem windowStep_engineTake (s : State) : s.engineTake.WindowStep s := by
  unfold engineTake
  split
  · exact (windowStep_setAna _ _ _).trans (windowStep_setDescState _ _ _)
  · exact .refl s

theorem windowStep_settle (s : State) (w : WinRef) : (s.settle w).WindowStep s := by
  unfold settle
  split
  · exact ((windowStep_engineTake _).trans (windowStep_setAna _ _ _)).trans (windowStep_setDescState _ _ _)
  · exact (windowStep_raise _ _).trans (windowStep_freeDesc _ _)

theorem windowStep_settleNow (s : State) (g : Group) : (s.settleNow g).WindowStep s := by
  unfold settleNow
  split
  · exact windowStep_settle _ _
  · exact .refl s

theorem windowStep_judgeSettlement (s : State) (g : Group) : (s.judgeSettlement g).WindowStep s := by
  unfold judgeSettlement
  dsimp only
  split
  · exact .refl s
  · split
    · exact windowStep_settle _ _
    · exact .refl s

theorem windowStep_discardOpen (s : State) (g : Group) : (s.discardOpen g).WindowStep s := by
  unfold discardOpen
  split
  · exact windowStep_freeDesc _ _
  · exact .refl s

theorem windowStep_withdrawOldest (s : State) (g : Group) : (s.withdrawOldest g).WindowStep s := by
  unfold withdrawOldest
  split
  · exact ((windowStep_raise _ _).trans (windowStep_setAna _ _ _)).trans (windowStep_freeDesc _ _)
  · exact .refl s

theorem windowStep_openWindow (s : State) (g : Group) (t : Tick) : (s.openWindow g t).WindowStep s := by
  unfold openWindow
  dsimp only
  have hroom : (if ((s.group g).descIn .free).isNone then s.withdrawOldest g else s).WindowStep s := by
    split
    · exact windowStep_withdrawOldest _ _
    · exact .refl s
  split
  · exact (windowStep_modGroup _ _ rfl).trans hroom
  · exact hroom

theorem windowStep_armBy (s : State) (g : Group) (p : Plan) (v : Int) : (s.armBy g p v).WindowStep s := by
  unfold armBy
  split
  · exact windowStep_modGroup _ _ rfl
  · exact .refl s

theorem windowStep_takeSeekOrOff (s : State) (g : Group) : (s.takeSeekOrOff g).WindowStep s :=
  s.windowStep_modGroup _ (GroupCtx.seekOrOff_gen _ _)

/-- With no switch pending a boundary is a step of the Window Engine. -/
theorem boundarySwitch_of_not_pending {s : State} {g : Group} (h : s.switchPending g = false) : s.boundarySwitch g = s := by
  simp [boundarySwitch, h]

theorem switchPending_of_idle {s : State} (h : s.mgmt.commit = none) (g : Group) : s.switchPending g = false := by
  simp [switchPending, h]

/-- Entry into BLIND but for a pending switch (R67). -/
def blinded (s : State) (g : Group) : State :=
  ((((s.raise .groupBlind).modGroup g (fun x => { x with state := .blind })).discardOpen g).settleNow g).modGroup g
    (fun x => { x with arm := false })

theorem windowStep_blinded (s : State) (g : Group) : (s.blinded g).WindowStep s :=
  ((((windowStep_modGroup _ g (f := fun x => { x with arm := false }) rfl).trans
    (windowStep_settleNow _ g)).trans (windowStep_discardOpen _ g)).trans
      (windowStep_modGroup (s.raise .groupBlind) g (f := fun x => { x with state := .blind }) rfl)).trans
      (windowStep_raise s .groupBlind)

theorem enterBlind_of_not_pending {s : State} {g : Group} (hs : s.switchPending g = false) : s.enterBlind g = s.blinded g := by
  have hnot : (s.blinded g).switchPending g = false := by
    rw [switchPending, (s.windowStep_blinded g).mgmt]
    exact hs
  exact if_neg (fun h => absurd (hnot.symm.trans h) Bool.false_ne_true)

/-- With no switch of the group pending, entry into BLIND is a step of the Window Engine. -/
theorem windowStep_enterBlind {s : State} (g : Group) (hs : s.switchPending g = false) : (s.enterBlind g).WindowStep s := by
  rw [enterBlind_of_not_pending hs]
  exact s.windowStep_blinded g

/-- A group loses its reference when it examines it and a node that has gone carries it (R41, R67). -/
theorem loseReference_eq (s : State) (gone : Node → Bool) (g : Group) : s.loseReference gone g =
    if ((s.group g).state = .seeking ∨ (s.group g).state = .tracking) ∧
        ∃ n : Node, (s.groupBank g).refNode g = some n ∧ gone n = true then s.enterBlind g
    else s := by
  unfold loseReference
  dsimp only
  split
  next n hn => simp [hn]
  next hn => simp [hn]

theorem windowStep_loseReference {s : State} (gone : Node → Bool) (g : Group) (hs : s.mgmt.commit = none) :
    (s.loseReference gone g).WindowStep s := by
  rw [loseReference_eq]
  split
  · exact windowStep_enterBlind g (switchPending_of_idle hs g)
  · exact .refl s

theorem windowStep_nodesLost {s : State} (gone : Node → Bool) (hs : s.mgmt.commit = none) :
    (s.nodesLost gone).WindowStep s := by
  refine foldl_keeps (P := fun t => t.WindowStep s) (fun t g ht => ?_) all8 s (.refl s)
  exact (windowStep_loseReference gone g (ht.mgmt ▸ hs)).trans ht

end State
end Sys2Proof.Machine
end

section
/-! What every step keeps, gone through command by command once (`StepInvariant`). An event is one or more changes and
then `finish`, so two properties are followed: one that holds between events, and a weaker one within an event, which
`finish` makes the first again. -/

namespace Sys2Proof.Machine

/-- Two states agree on the groups, the windows, the Check Unit, the banks and commit control. -/
structure State.SameAnalysis (t s : State) : Prop where
  ana : t.ana = s.ana
  chk : t.chk = s.chk
  active : t.mgmt.active = s.mgmt.active
  staging : t.mgmt.staging = s.mgmt.staging
  activeGen : t.mgmt.activeGen = s.mgmt.activeGen
  commit : t.mgmt.commit = s.mgmt.commit

/-- And on the resets that are coming. -/
structure State.SameWithin (t s : State) : Prop extends State.SameAnalysis t s where
  markReset : t.links.markReset = s.links.markReset
  restartMark : t.mgmt.restartMark = s.mgmt.restartMark

/-- And on the hold, and no port has left UP. -/
structure State.SameControl (t s : State) : Prop extends State.SameWithin t s where
  hold : t.mgmt.hold = s.mgmt.hold
  ups : ∀ p : Port, s.isUp p = true → t.isUp p = true

/-- Nothing is left to judge at the end of an event (R15, R17, R176, R183). -/
structure State.Judged (s : State) : Prop where
  commit : s.commitReady = false
  hold : ∀ h : Hold, s.mgmt.hold = some h → h.effective = false → s.anyInFlight = true
  mark : ∀ m : MarkReset, s.links.markReset = some m → s.isUp m.arrival.other = true
  restart : s.links.markReset = none → s.mgmt.restartMark = true → s.isUp .s = true

/-- A property P that every event keeps: M is what is left of it within an event, kept by each operation on the windows,
and made P again by the judgements an event closes with. -/
structure StepInvariant (M P : State → Prop) : Prop where
  mid : ∀ {s : State}, P s → M s
  within : ∀ {s t : State}, M s → t.SameWithin s → M t
  congr : ∀ {s t : State}, P s → t.SameControl s → P t
  judged : ∀ {s : State}, M s → s.Judged → P s
  full : ∀ (pending : List Instr) (straps : BitVec 3) (mask : Option Nat) (cause : ResetCause),
    P (State.fullReset pending straps mask cause)
  restart : ∀ s : State, s.mgmt.commit = none → P s.restartBlocks
  tick : ∀ s : State, P s → P s.tickEngine.tickMgmt
  sample : ∀ (s : State) (g : Group) (c : Chan) (t : Tick) (v : Int), M s → M (s.takeSample g c t v)
  blind : ∀ (s : State) (g : Group), (s.group g).state = .seeking ∨ (s.group g).state = .tracking → M s → M (s.enterBlind g)
  handOff : ∀ (s : State) (e : Evaluation), s.ana.engine = some e → M s → M (s.handOff e.win)
  write : ∀ (s : State) (b : Bank), s.mgmt.commit = none → P s → P (s.setMgmt { s.mgmt with staging := b })
  accept : ∀ s : State, s.mgmt.commit = none → M s → M s.acceptCommit
  force : ∀ s : State, s.mgmt.commit.isSome = true → M s → M s.forceCommit
  adopt : ∀ (s : State) (c : Commit), s.mgmt.commit = some c → s.commitReady = true → M s → M (s.adoptStaging c)
  quiesce : ∀ (s : State) (g : Group), M s → M (s.quiesce g)
  quiesced : ∀ (s : State) (g : Group), M s → M (s.judgeQuiesced g)
  resume : ∀ (s : State) (g : Group), P s → P (s.resume g)
  endHold : ∀ (s : State) (x : Hold) (c : HoldCause), P s → P (s.endHold x c)
  held : ∀ (s : State) (straps : BitVec 3) (c : ResetCause), P s → P (s.hold straps c)
  pass : ∀ (s : State) (m : MarkReset), s.resetComing = false → s.isUp m.arrival.other = true → P s →
    P (s.setLinks { s.links with markReset := some m })
  propagate : ∀ s : State, s.links.markReset = none → s.isUp .s = true → P s →
    P (s.setMgmt { s.mgmt with restartMark := true })

namespace State

/-! ## The operations that touch nothing of the analysis -/

theorem isUp_modPort (s : State) (p : Port) (f : PortState → PortState)
    (hf : (s.port p).link = .up → (f (s.port p)).link = .up) (q : Port) (h : s.isUp q = true) : (s.modPort p f).isUp q = true := by
  simp only [isUp, beq_iff_eq] at h ⊢
  cases p <;> cases q
  · exact hf h
  · exact h
  · exact h
  · exact hf h

namespace SameWithin

theorem modPort (s : State) (p : Port) (f : PortState → PortState) : (s.modPort p f).SameWithin s := by
  cases p <;> exact ⟨⟨rfl, rfl, rfl, rfl, rfl, rfl⟩, rfl, rfl⟩

theorem setHold (s : State) (x : Option Hold) : (s.setMgmt { s.mgmt with hold := x }).SameWithin s :=
  ⟨⟨rfl, rfl, rfl, rfl, rfl, rfl⟩, rfl, rfl⟩

theorem judgeHold (s : State) : s.judgeHold.SameWithin s := by
  unfold State.judgeHold
  split
  · split <;> exact ⟨⟨rfl, rfl, rfl, rfl, rfl, rfl⟩, rfl, rfl⟩
  · exact ⟨⟨rfl, rfl, rfl, rfl, rfl, rfl⟩, rfl, rfl⟩

theorem endHold (s : State) (x : Hold) (c : HoldCause) : (s.endHold x c).SameWithin s :=
  ⟨⟨rfl, rfl, rfl, rfl, rfl, rfl⟩, rfl, rfl⟩

end SameWithin

/-- What `SameControl` compares. -/
def followed (s : State) : Analysis × CheckUnit × Management × Option MarkReset × LinkState × LinkState :=
  (s.ana, s.chk, { s.mgmt with request := none }, s.links.markReset, s.links.s.link, s.links.c.link)

namespace SameControl

variable {s t u : State}

/-- A change that touches nothing of what is followed. -/
theorem of_followed (h : t.followed = s.followed) : t.SameControl s := by
  simp only [followed, Prod.mk.injEq, Management.mk.injEq] at h
  obtain ⟨hana, hchk, ⟨-, hmark, hactive, hstaging, hgen, hcommit, hhold⟩, hreset, hlinkS, hlinkC⟩ := h
  refine ⟨⟨⟨hana, hchk, hactive, hstaging, hgen, hcommit⟩, hreset, hmark⟩, hhold, fun p hp => ?_⟩
  cases p
  · exact hp ▸ congrArg (· == LinkState.up) hlinkS
  · exact hp ▸ congrArg (· == LinkState.up) hlinkC

theorem refl (s : State) : s.SameControl s := of_followed rfl

theorem trans (h : u.SameControl t) (k : t.SameControl s) : u.SameControl s where
  ana := h.ana.trans k.ana
  chk := h.chk.trans k.chk
  active := h.active.trans k.active
  staging := h.staging.trans k.staging
  activeGen := h.activeGen.trans k.activeGen
  commit := h.commit.trans k.commit
  markReset := h.markReset.trans k.markReset
  restartMark := h.restartMark.trans k.restartMark
  hold := h.hold.trans k.hold
  ups p hp := h.ups p (k.ups p hp)

theorem modPort (s : State) (p : Port) (f : PortState → PortState)
    (hf : (s.port p).link = .up → (f (s.port p)).link = .up) : (s.modPort p f).SameControl s :=
  ⟨SameWithin.modPort s p f, by cases p <;> rfl, s.isUp_modPort p f hf⟩

theorem setOwed (s : State) (b : Bool) : (s.setOwed b).SameControl s := of_followed rfl

theorem enterUp (s : State) (p : Port) : (s.enterUp p).SameControl s := by
  have hup : (s.modPort p PortState.enterUp).SameControl s := modPort s p _ (fun _ => rfl)
  cases p
  · exact hup
  · exact (setOwed _ true).trans hup

theorem setDisp (s : State) (x : Dispatcher) : (s.setDisp x).SameControl s := of_followed rfl

theorem setSnap (s : State) (x : SnapshotUnit) : (s.setSnap x).SameControl s := of_followed rfl

theorem raise (s : State) (k : EventKind) : (s.raise k).SameControl s := of_followed rfl

theorem raiseDeferred (s : State) (b : Bool) : (s.raiseDeferred b).SameControl s := by
  cases b <;> exact of_followed rfl

theorem answer (s : State) (r : Request) (st : Status) (d : List Byte) : (s.answer r st d).SameControl s := by
  rw [answer_spec]
  exact of_followed rfl

theorem answerRestart (s : State) (r : Option Request) : (s.answerRestart r).SameControl s := by
  cases r with
  | none => exact .refl s
  | some r => exact answer s r _ _

theorem abortSnapshot (s : State) (g : Group) : (s.abortSnapshot g).SameControl s := by
  unfold State.abortSnapshot
  split
  · split
    · exact of_followed rfl
    · exact .refl s
  · exact .refl s
  · exact .refl s

theorem admitWaiting (s : State) : s.admitWaiting.SameControl s := by
  unfold State.admitWaiting
  split <;> exact of_followed rfl

theorem dropHead (s : State) : s.dropHead.SameControl s := (admitWaiting _).trans (of_followed rfl)

theorem select (s : State) : (Machine.select s).SameControl s := by
  unfold Machine.select
  split
  · split <;> exact of_followed rfl
  · exact .refl s

theorem offerSToC (s : State) (f : List Byte) : (s.offerSToC f).SameControl s := by
  unfold State.offerSToC
  split
  · split <;> exact of_followed rfl
  · exact .refl s

theorem offerCToS (s : State) (f : List Byte) : (s.offerCToS f).SameControl s := by
  unfold State.offerCToS
  split
  · split <;> exact of_followed rfl
  · exact .refl s

theorem reportGap (s : State) (n : Node) (q : Byte) (j : Judgement) : (s.reportGap n q j).SameControl s := by
  cases j <;> exact of_followed rfl

theorem setTx (s : State) (p : Port) (f : Option TxFrame) : (s.setTx p f).SameControl s := modPort s p _ id

theorem sendControl (s : State) (p : Port) : (s.sendControl p).SameControl s := modPort s p _ id

theorem handOut (s : State) (x : TxSort) (k : Byte) (d : Addr) (b : List Byte) : (s.handOut x k d b).SameControl s :=
  (of_followed rfl)

theorem grant (s : State) : s.grant.SameControl s := by
  unfold State.grant
  split
  · unfold State.grantForward
    split <;> exact of_followed rfl
  · unfold State.grantReport
    split
    · exact (dropHead _).trans (of_followed rfl)
    · exact .refl s
  · unfold State.grantEvent
    split <;> exact of_followed rfl
  · exact sendControl s .c

theorem nextC (s : State) : s.nextC.SameControl s := by
  unfold State.nextC
  split
  · split
    · exact of_followed rfl
    · split
      · exact sendControl s .c
      · exact grant s
  · exact sendControl s .c

theorem nextS (s : State) : s.nextS.SameControl s := by
  unfold State.nextS
  split
  · split
    · exact of_followed rfl
    · exact sendControl s .s
  · exact sendControl s .s

theorem afterMark (s : State) (m : Mark) (p : Port) : (s.afterMark m p).SameControl s := by
  cases m
  · exact .refl s
  · cases p
    · exact nextS s
    · exact nextC s

theorem refuseMark (s : State) : s.refuseMark.SameControl s := by
  unfold State.refuseMark
  split <;> exact of_followed rfl

theorem goodInUp (s : State) (p : Port) : (s.modPort p PortState.goodInUp).SameControl s :=
  modPort s p _ (fun h => by unfold PortState.goodInUp; split <;> exact h)

theorem malformedControl (s : State) (p : Port) : (s.malformedControl p).SameControl s := by
  unfold State.malformedControl
  split
  · exact (raise _ _).trans (goodInUp s p)
  · exact .refl s

/-- A port that is not UP does not leave it. -/
theorem notUp {s : State} {p : Port} (f : PortState → PortState) (h : (s.port p).link ≠ .up) :
    (s.modPort p f).SameControl s := modPort s p f (fun e => absurd e h)

theorem phaseInConfirm {s : State} {p : Port} (v : Control) (h : (s.port p).link = .confirm) :
    (s.phaseInConfirm p v).SameControl s := by
  have hnot : (s.port p).link ≠ .up := by rw [h]; decide
  unfold State.phaseInConfirm
  split
  · split
    · exact .refl s
    · split <;> exact notUp _ hnot
  · exact enterUp s p
  · exact notUp _ hnot
  · exact .refl s
  · exact .refl s

theorem minimumReached (s : State) (p : Port) : (s.minimumReached p).SameControl s := by
  unfold State.minimumReached
  split
  · exact .refl s
  · refine modPort s p _ (fun h => ?_)
    unfold atMinimum
    dsimp only
    rw [h]
    split <;> rfl

theorem deadlineReached (s : State) (p : Port) : (s.deadlineReached p).SameControl s := by
  unfold State.deadlineReached
  split
  · exact .refl s
  · refine modPort s p _ (fun h => ?_)
    unfold atDeadline
    rw [h]
    exact h

theorem settleExpires (s : State) (p : Port) : (s.settleExpires p).SameControl s := by
  unfold State.settleExpires
  split
  · exact enterUp s p
  · exact .refl s

theorem retryStarts (s : State) (p : Port) : (s.retryStarts p).SameControl s := by
  unfold State.retryStarts
  split
  next h =>
    simp only [Bool.and_eq_true, beq_iff_eq] at h
    exact notUp _ (by rw [h.1.2]; decide)
  next => exact .refl s

theorem owePresence (s : State) (was : Addr) : (s.owePresence was).SameControl s := by
  unfold State.owePresence
  split <;> exact of_followed rfl

end SameControl

/-! ## Commit control outside an acceptance -/

theorem abortSnapshot_mgmt (s : State) (g : Group) : (s.abortSnapshot g).mgmt = s.mgmt := by
  unfold abortSnapshot
  split
  · split <;> rfl
  · rfl
  · rfl

@[simp] theorem setLimitStates_mgmt (s : State) (g : Group) (x : Vector LimitState 96) :
    (s.setLimitStates g x).mgmt = s.mgmt := by
  unfold setLimitStates
  split <;> rfl

/-- A switch touches nothing of the Management Unit but the group's switched flag (R71, R179). -/
theorem switchGroup_mgmt {s : State} {c : Commit} (h : s.mgmt.commit = some c) (g : Group) :
    (s.switchGroup g).mgmt = { s.mgmt with commit := some { c with switched := GroupSet.set c.switched g } } := by
  unfold switchGroup
  rw [h]
  dsimp only
  rw [abortSnapshot_mgmt]
  simp only [setAna_mgmt]
  show (State.clearChecks _ g).mgmt = _
  simp only [clearChecks, setVector, setChk_mgmt, setLimitStates_mgmt, setMgmt_mgmt, modGroup, setGroup, setAna_mgmt]

/-- The restart's forced switches leave a commit pending that was pending, and none where none was (R181). -/
theorem switchRemaining_idle (s : State) :
    s.switchRemaining.mgmt.commit = none ↔ s.mgmt.commit = none := by
  refine foldl_keeps (P := fun t => t.mgmt.commit = none ↔ s.mgmt.commit = none) (fun t g ht => ?_) all8 s Iff.rfl
  dsimp only
  split
  next hp =>
    cases hc : t.mgmt.commit with
    | none => simp [switchPending, hc] at hp
    | some c =>
      rw [hc] at ht
      simp [switchGroup_mgmt hc, ← ht]
  next => exact ht

theorem staleWhere_idle {s : State} (p : SourceEntry → Bool) (h : s.mgmt.commit = none) :
    (s.staleWhere p).mgmt = s.mgmt := by
  unfold staleWhere
  dsimp only
  split
  · have hidle : ((s.setSources (vmap (fun e => if e.state == .tracking && p e then e.goStale else e) s.sources)).raise
        .sourceLost).mgmt.commit = none := h
    exact (windowStep_nodesLost _ hidle).mgmt
  · rfl

theorem modPort_mgmt (s : State) (p : Port) (f : PortState → PortState) : (s.modPort p f).mgmt = s.mgmt := by
  cases p <;> rfl

theorem leaveUp_idle {s : State} (p : Port) (h : s.mgmt.commit = none) : (s.leaveUp p).mgmt = s.mgmt := by
  cases p
  · exact staleWhere_idle _ h
  · rfl

theorem applyEnable_idle {s : State} (was : Bool) (h : s.mgmt.commit = none) : (s.applyEnable was).mgmt = s.mgmt := by
  unfold applyEnable
  dsimp only
  split
  · rw [setFwd_mgmt, modPort_mgmt]
    split
    · exact leaveUp_idle _ h
    · rfl
  · split
    · exact modPort_mgmt _ _ _
    · rfl

theorem owePresence_mgmt (s : State) (was : Addr) : (s.owePresence was).mgmt = s.mgmt := by
  unfold owePresence
  split <;> rfl

/-- What the blocks take from a completion touches nothing of the Management Unit (R177). -/
theorem applySettings_idle {s : State} (old : Settings) (h : s.mgmt.commit = none) :
    (s.applySettings old).mgmt = s.mgmt := by
  have henable := applyEnable_idle old.portSEnable h
  rw [applySettings, owePresence_mgmt, judgeStaleTimers, staleWhere_idle _ (henable ▸ h), henable]

end State

/-! ## The actions of the requests -/

/-- The twenty-one actions, in the order of their codes. -/
def actions : List Action :=
  [doWriteStaging, doReadTable, doCopyActive, doCommit, doHold, doRelease, doQuiesceGroup, doResumeGroup, doReadStatus,
    doReadGroup, doReadSources, doRestartAnalysis, doResetPart, doAckEvents, doClearRaw, doSetMask, doClearMask,
    doReadEvents, doArmSnapshot, doReadSnapshot, doReleaseSnapshot]

/-- What holds of each action holds of the action of every code. -/
theorem actionOf_elim {Q : Action → Prop} (h : ∀ act ∈ actions, Q act) (code : Byte) : Q (actionOf code) := by
  refine h _ ?_
  unfold actionOf
  repeat' refine iteInduction (fun _ => ?_) (fun _ => ?_)
  all_goals simp [actions]

/-! ## The end of an event -/

namespace State

/-- A hold judged leaves none in HOLDING with nothing in flight (R183). -/
theorem judgeHold_judged (s : State) (h : Hold) (hh : s.judgeHold.mgmt.hold = some h) (he : h.effective = false) :
    s.judgeHold.anyInFlight = true := by
  unfold judgeHold at hh ⊢
  split at hh
  next x hx =>
    split at hh
    · obtain rfl := Option.some.inj hh
      cases he
    next hc =>
      rw [hx] at hh
      obtain rfl := Option.some.inj hh
      rw [if_neg hc]
      simpa [he] using hc
  next hx => rw [hx] at hh; cases hh

theorem SameAnalysis.commitReady {s t : State} (h : t.SameAnalysis s) : t.commitReady = s.commitReady := by
  simp only [State.commitReady, tagLive, h.ana, h.commit, h.activeGen]

theorem SameAnalysis.anyInFlight {s t : State} (h : t.SameAnalysis s) : t.anyInFlight = s.anyInFlight := by
  simp only [State.anyInFlight, h.ana]

/-- A completed commit is no longer pending (R177). -/
theorem complete_idle (s : State) : s.complete.mgmt.commit = none := by
  unfold complete
  split
  next c _ =>
    have hidle : (((s.adoptStaging c).offerMarker (.commitDone c.stagingGen c.forced))).mgmt.commit = none := rfl
    rw [applySettings_idle s.settings hidle]
    exact hidle
  next hc => exact hc

theorem commitReady_of_idle {s : State} (h : s.mgmt.commit = none) : s.commitReady = false := by
  simp [commitReady, h]

end State

/-! ## Every command -/

namespace StepInvariant

variable {M P : State → Prop} (inv : StepInvariant M P) {s : State}

include inv

/-- Within an event too, a change that touches nothing of what is followed. -/
theorem same {t : State} (h : M s) (same : t.followed = s.followed) : M t :=
  inv.within h (State.SameControl.of_followed same).toSameWithin

/-- A change that touches nothing of what is followed. -/
theorem unfollowed {t : State} (h : P s) (same : t.followed = s.followed) : P t :=
  inv.congr h (.of_followed same)

theorem loseReference (h : M s) (gone : Node → Bool) (g : Group) : M (s.loseReference gone g) := by
  rw [State.loseReference_eq]
  split
  next hc => exact inv.blind s g hc.1 h
  next => exact h

theorem nodesLost (h : M s) (gone : Node → Bool) : M (s.nodesLost gone) :=
  foldl_keeps (P := M) (fun _ g ha => inv.loseReference ha gone g) all8 s h

theorem staleWhere (h : M s) (p : SourceEntry → Bool) : M (s.staleWhere p) := by
  unfold State.staleWhere
  dsimp only
  split
  · refine inv.nodesLost ?_ _
    exact inv.same h rfl
  · exact h

theorem modPort (h : M s) (p : Port) (f : PortState → PortState) : M (s.modPort p f) := inv.within h (.modPort s p f)

theorem leaveUp (h : M s) (p : Port) : M (s.leaveUp p) := by
  have hraised : M (s.raise .linkDown) := inv.same h rfl
  have hleft : M ((s.raise .linkDown).modPort p (fun x => { x with tx := none })) := inv.modPort hraised p _
  cases p
  · exact inv.staleWhere hleft _
  · exact inv.same hleft rfl

theorem applyEnable (h : M s) (was : Bool) : M (s.applyEnable was) := by
  unfold State.applyEnable
  dsimp only
  split
  · refine inv.same (inv.modPort (s := if s.isUp .s then s.leaveUp .s else s) ?_ .s (fun x => x.enterDown none)) rfl
    split
    · exact inv.leaveUp h .s
    · exact h
  · split
    · exact inv.modPort h .s _
    · exact h

theorem applySettings (h : M s) (old : Settings) : M (s.applySettings old) :=
  inv.within (inv.staleWhere (inv.applyEnable h _) _) (State.SameControl.owePresence _ _).toSameWithin

theorem complete (h : M s) (hr : s.commitReady = true) : M s.complete := by
  unfold State.complete
  split
  next c hc =>
    refine inv.applySettings ?_ _
    exact inv.same (inv.adopt s c hc hr h) rfl
  next => exact h

theorem takeFullReset (s : State) (c : ResetCause) : P (s.takeFullReset c) :=
  inv.congr (inv.full _ _ _ _) (.raiseDeferred _ _)

theorem takeRestart (s : State) (r : Option Request) : P (s.takeRestart r) := by
  unfold State.takeRestart
  dsimp only
  split
  next c _ =>
    have hidle : (s.switchRemaining.adoptStaging c).mgmt.commit = none := rfl
    have hrest := inv.restart _ ((State.applySettings_idle s.settings hidle).symm ▸ hidle)
    refine inv.congr (inv.congr (s := State.offerMarker _ _) ?_ (.answerRestart _ _)) (.raiseDeferred _ _)
    exact inv.unfollowed hrest rfl
  next hc =>
    exact inv.congr (inv.congr (inv.restart s (s.switchRemaining_idle.mp hc)) (.answerRestart _ _)) (.raiseDeferred _ _)

theorem takeMarkReset (s : State) (m : MarkReset) : P (s.takeMarkReset m) := by
  unfold State.takeMarkReset
  split
  · exact inv.takeFullReset _ _
  · exact inv.takeRestart _ _

/-- What an event closes with leaves nothing to judge (log 18). -/
theorem finish (h : M s) : P s.finish := by
  unfold State.finish
  dsimp only
  have hheld : M s.judgeHold := inv.within h (.judgeHold s)
  have hcompleted : M (if s.judgeHold.commitReady then s.judgeHold.complete.judgeHold else s.judgeHold) := by
    split
    · exact inv.within (inv.complete hheld ‹_›) (.judgeHold _)
    · exact hheld
  have hcommit : (if s.judgeHold.commitReady then s.judgeHold.complete.judgeHold else s.judgeHold).commitReady = false := by
    split
    · rw [(State.SameWithin.judgeHold _).commitReady]
      exact State.commitReady_of_idle s.judgeHold.complete_idle
    next hr => exact Bool.eq_false_of_not_eq_true hr
  have hhold : ∀ x : Hold, (if s.judgeHold.commitReady then s.judgeHold.complete.judgeHold else s.judgeHold).mgmt.hold =
      some x → x.effective = false →
      (if s.judgeHold.commitReady then s.judgeHold.complete.judgeHold else s.judgeHold).anyInFlight = true := by
    split
    · exact s.judgeHold.complete.judgeHold_judged
    · exact s.judgeHold_judged
  generalize (if s.judgeHold.commitReady then s.judgeHold.complete.judgeHold else s.judgeHold) = t at *
  unfold State.resetIfCutOff
  split
  next m hm =>
    split
    next hup =>
      refine inv.judged hcompleted ⟨hcommit, hhold, fun n hn => ?_, fun hnone => ?_⟩
      · rw [← Option.some.inj (hm.symm.trans hn)]
        exact hup
      · rw [hm] at hnone
        cases hnone
    · exact inv.takeMarkReset _ _
  next hnone =>
    split
    · exact inv.takeRestart _ _
    next hup =>
      refine inv.judged hcompleted ⟨hcommit, hhold, fun n hn => ?_, fun _ hmark => ?_⟩
      · rw [hnone] at hn
        cases hn
      · simpa [hmark] using hup

theorem afterLeaving (h : M s) (b : Bool) : P (s.afterLeaving b) := by
  unfold State.afterLeaving
  split
  · exact inv.takeFullReset _ _
  · exact inv.finish h

theorem linkLoss (h : P s) (p : Port) : P (s.linkLoss p) := inv.afterLeaving (inv.modPort (inv.leaveUp (inv.mid h) p) p _) _
theorem partnerSeeks (h : P s) (p : Port) : P (s.partnerSeeks p) := inv.afterLeaving (inv.modPort (inv.leaveUp (inv.mid h) p) p _) _

theorem badCheck (h : P s) (p : Port) : P (s.badCheck p) := by
  unfold State.badCheck
  dsimp only
  have hcounted : P (s.countBad p) := inv.congr h (.modPort s p _ id)
  split
  · exact h
  · split
    · have hrun := inv.congr hcounted (.modPort _ p (fun x => { x with badRun := x.badRun + 1 }) id)
      split
      · exact inv.linkLoss hrun p
      · exact hrun
    · exact hcounted

theorem signalLost (h : P s) (p : Port) : P (s.signalLost p) := by
  unfold State.signalLost
  split
  · exact h
  · split
    · exact inv.linkLoss h p
    · exact h

theorem acceptMark (h : P s) (p : Port) (m : Mark) (hcoming : s.resetComing = false) : P (s.acceptMark p m) := by
  unfold State.acceptMark
  dsimp only
  split
  next hup =>
    have hmask : P s.startMask := inv.unfollowed h rfl
    have hsent := State.SameControl.setTx s.startMask p.other (some ⟨.mark, controlFrame s.startMask.partAddr (.mark m)⟩)
    refine inv.pass _ ⟨m, p⟩ ?_ (hsent.ups _ hup) (inv.congr hmask hsent)
    simp only [State.resetComing] at hcoming ⊢
    rw [← hcoming]
    exact congrArg₂ (fun x y => Option.isSome x || y) hsent.markReset hsent.restartMark
  next => exact inv.takeMarkReset _ _

theorem markArrives (h : P s) (p : Port) (m : Mark) : P (s.markArrives p m) := by
  unfold State.markArrives State.judgeMark
  dsimp only
  have hheard : P (s.modPort p PortState.goodInUp) := inv.congr h (.goodInUp s p)
  split
  · exact h
  · split
    next haccepted =>
      refine inv.acceptMark hheard p m ?_
      simp only [State.markAccepted, Bool.and_eq_true, Bool.not_eq_true'] at haccepted
      exact haccepted.1.2
    next => exact inv.congr hheard (.refuseMark _)

theorem phaseArrives (h : P s) (p : Port) (v : Control) : P (s.phaseArrives p v) := by
  have hmove : ∀ f : PortState → PortState, (s.port p).link ≠ .up → P (s.modPort p f) :=
    fun f hnot => inv.congr h (.notUp f hnot)
  unfold State.phaseArrives
  split
  next e =>
    split
    · exact hmove _ (by rw [e]; decide)
    · exact h
  next e =>
    split
    · exact hmove _ (by rw [e]; decide)
    · exact h
  next e =>
    split
    · exact hmove _ (by rw [e]; decide)
    · exact h
  next e => exact inv.congr h (.phaseInConfirm v e)
  next =>
    have hheard : P (s.modPort p PortState.goodInUp) := inv.congr h (.goodInUp s p)
    unfold State.phaseInUp
    dsimp only
    split
    · exact inv.partnerSeeks hheard p
    · exact hheard

theorem linkControl (h : P s) (p : Port) (b : List Byte) : P (s.linkControl p b) := by
  unfold State.linkControl
  split
  · exact h
  · split
    · exact inv.congr h (.malformedControl s p)
    · exact inv.markArrives h p _
    · exact inv.phaseArrives h p _

/-! Frame ends -/

theorem markEnds (h : P s) : P s.markEnds := by
  unfold State.markEnds
  split
  · split
    · exact inv.congr (inv.takeMarkReset _ _) (.afterMark _ _ _)
    · exact h
  · split
    · exact inv.congr (inv.takeRestart _ _) (.nextS _)
    · exact h

theorem endFrameC (h : P s) : P s.endFrameC := by
  unfold State.endFrameC
  split
  · exact h
  · split
    · exact inv.markEnds h
    · exact inv.takeFullReset _ _
    all_goals exact inv.congr h (.nextC s)

theorem endFrameS (h : P s) : P s.endFrameS := by
  unfold State.endFrameS
  split
  · exact h
  · split
    · exact inv.markEnds h
    · exact inv.congr h (.nextS s)

theorem endResetPartReply (h : P s) : P s.endResetPartReply := by
  unfold State.endResetPartReply
  split
  · exact inv.takeFullReset _ _
  · exact h

/-! Timers -/

omit inv in
theorem running (h : P s) {f : State → State} (hf : P (f s)) : P (s.running f) := by
  unfold State.running
  split
  · exact h
  · exact hf

theorem commitExpires (h : P s) : P s.commitExpires := by
  unfold State.commitExpires
  split
  next c hc =>
    split
    · exact inv.finish (inv.force s (by rw [hc]; rfl) (inv.mid h))
    · exact h
  next => exact h

theorem holdExpires (h : P s) : P s.holdExpires := by
  unfold State.holdExpires
  split
  · exact inv.endHold s _ _ h
  · exact h

theorem endEvaluation (h : P s) : P s.endEvaluation := by
  unfold State.endEvaluation
  split
  next e he => exact inv.finish (inv.handOff s e he (inv.mid h))
  next => exact h

theorem staleTimeout (h : P s) (n : Node) : P (s.staleTimeout n) := by
  unfold State.staleTimeout
  split
  · refine inv.finish (inv.nodesLost ?_ _)
    exact inv.same (inv.mid h) rfl
  · exact h

theorem clockTick (h : P s) : P s.clockTick := by
  unfold State.clockTick
  split
  · exact inv.unfollowed h rfl
  · exact inv.tick _ (inv.unfollowed h rfl)

/-! Requests -/

theorem answer (h : P s) (r : Request) (st : Status) (d : List Byte) : P (s.answer r st d) :=
  inv.congr h (.answer s r st d)

/-- The answer behind a change outside the analysis. -/
theorem answerAfter {t : State} (h : P s) (same : t.SameControl s) (r : Request) (st : Status) (d : List Byte) :
    P (t.answer r st d) := inv.answer (inv.congr h same) r st d

theorem doWriteStaging (h : P s) (r : Request) : P (Machine.doWriteStaging r s) := by
  unfold Machine.doWriteStaging Machine.writeEntries
  split
  · split
    · split
      · exact inv.answer h _ _ _
      next hc =>
        have hidle : s.mgmt.commit = none := by simpa using hc
        split
        · exact inv.answer (inv.write s _ hidle h) _ _ _
        · exact inv.answer h _ _ _
    · exact inv.answer h _ _ _
  · exact inv.answer h _ _ _

theorem doReadTable (h : P s) (r : Request) : P (Machine.doReadTable r s) := by
  unfold Machine.doReadTable
  split
  · split <;> exact inv.answer h _ _ _
  · exact inv.answer h _ _ _

theorem doCopyActive (h : P s) (r : Request) : P (Machine.doCopyActive r s) := by
  unfold Machine.doCopyActive
  split
  · exact inv.answer h _ _ _
  next hc => exact inv.answer (inv.write s _ (by simpa using hc) h) _ _ _

theorem doCommit (h : P s) (r : Request) : P (Machine.doCommit r s) := by
  unfold Machine.doCommit
  split
  · exact inv.answer h _ _ _
  next hc =>
    split
    · exact inv.answer h _ _ _
    · have hsame := State.SameControl.answer s r .accepted (be16 (s.mgmt.activeGen + 1))
      have hidle : s.mgmt.commit = none := by simpa using hc
      exact inv.finish (inv.accept _ (hsame.commit.trans hidle) (inv.mid (inv.congr h hsame)))

theorem doHold (h : P s) (r : Request) : P (Machine.doHold r s) := by
  unfold Machine.doHold
  dsimp only
  split
  · exact inv.answer h _ _ _
  · split
    · exact inv.answer h _ _ _
    · exact inv.finish (inv.within (inv.within (inv.mid h) (.setHold s _)) (State.SameControl.answer _ _ _ _).toSameWithin)

theorem doRelease (h : P s) (r : Request) : P (Machine.doRelease r s) := by
  unfold Machine.doRelease
  split
  · exact inv.answer h _ _ _
  · exact inv.endHold _ _ _ (inv.answer h _ _ _)

theorem takeQuiesce (h : M s) (g : Group) : P (Machine.takeQuiesce g s) :=
  inv.finish (inv.quiesced _ g (inv.within (inv.quiesce _ g (inv.within h (State.SameControl.abortSnapshot s g).toSameWithin)) (.judgeHold _)))

theorem doQuiesceGroup (h : P s) (r : Request) : P (Machine.doQuiesceGroup r s) := by
  unfold Machine.doQuiesceGroup
  split
  · exact inv.answer h _ _ _
  · split
    · exact inv.answer h _ _ _
    · exact inv.takeQuiesce (inv.mid (inv.answer h _ _ _)) _

theorem doResumeGroup (h : P s) (r : Request) : P (Machine.doResumeGroup r s) := by
  unfold Machine.doResumeGroup
  split
  · exact inv.answer h _ _ _
  · split
    · exact inv.answer (inv.resume s _ h) _ _ _
    · exact inv.answer h _ _ _

theorem doReadGroup (h : P s) (r : Request) : P (Machine.doReadGroup r s) := by
  unfold Machine.doReadGroup
  split <;> exact inv.answer h _ _ _

theorem doRestartAnalysis (h : P s) (hmark : s.links.markReset = none) (r : Request) : P (Machine.doRestartAnalysis r s) := by
  unfold Machine.doRestartAnalysis Machine.propagateRestart
  split
  · exact inv.answer h _ _ _
  · dsimp only
    split
    next hup =>
      have hmask : P s.startMask := inv.unfollowed h rfl
      have hsent := State.SameControl.setTx s.startMask .s (some ⟨.mark, controlFrame s.startMask.partAddr (.mark .sectionMark)⟩)
      exact inv.propagate _ (hsent.markReset.trans hmark) (hsent.ups _ hup) (inv.congr hmask hsent)
    next => exact inv.takeRestart _ _
  · exact inv.takeRestart _ _

theorem doResetPart (h : P s) (r : Request) : P (Machine.doResetPart r s) := by
  unfold Machine.doResetPart
  split
  · exact inv.takeFullReset _ _
  · exact inv.answer h _ _ _

theorem doArmSnapshot (h : P s) (r : Request) : P (Machine.doArmSnapshot r s) := by
  unfold Machine.doArmSnapshot
  split
  · split
    · exact inv.answerAfter h (.setSnap s _) _ _ _
    · exact inv.answer h _ _ _
  · exact inv.answer h _ _ _

theorem doReadSnapshot (h : P s) (r : Request) : P (Machine.doReadSnapshot r s) := by
  unfold Machine.doReadSnapshot
  dsimp only
  split
  · split <;> exact inv.answer h _ _ _
  · exact inv.answer h _ _ _

theorem doReleaseSnapshot (h : P s) (r : Request) : P (Machine.doReleaseSnapshot r s) := by
  unfold Machine.doReleaseSnapshot
  split
  · exact inv.answer h _ _ _
  · exact inv.answerAfter h (.setSnap s _) _ _ _
  · exact inv.answerAfter h (.setSnap s _) _ _ _

theorem actionOf (code : Byte) (h : P s) (hmark : s.links.markReset = none) (r : Request) : P (Machine.actionOf code r s) := by
  refine actionOf_elim (Q := fun act => P (act r s)) ?_ code
  simp only [actions, List.forall_mem_cons, List.not_mem_nil, false_imp_iff, implies_true, and_true]
  exact ⟨inv.doWriteStaging h r, inv.doReadTable h r, inv.doCopyActive h r, inv.doCommit h r, inv.doHold h r,
    inv.doRelease h r, inv.doQuiesceGroup h r, inv.doResumeGroup h r, inv.answer h r _ _, inv.doReadGroup h r,
    inv.answer h r _ _, inv.doRestartAnalysis h hmark r, inv.doResetPart h r, inv.answerAfter h (.setDisp s _) r _ _,
    inv.answerAfter h (.setDisp s _) r _ _, inv.answerAfter h (.setDisp s _) r _ _,
    inv.answerAfter h (.setDisp s _) r _ _, inv.answer h r _ _, inv.doArmSnapshot h r, inv.doReadSnapshot h r,
    inv.doReleaseSnapshot h r⟩

/-! Frames -/

theorem giveRequest (h : P s) (hmark : s.links.markReset = none) (r : Request) {act : Action}
    (hact : ∀ t : State, P t → t.links.markReset = none → P (act r t)) : P (s.giveRequest r act) := by
  unfold State.giveRequest State.takeRequest State.beginRequest
  dsimp only
  split
  · exact inv.unfollowed h rfl
  · split
    · exact inv.unfollowed h rfl
    · have hbegun : P (s.setMgmt { s.mgmt with request := some r }) := inv.unfollowed h rfl
      split
      · exact hact _ hbegun hmark
      · exact inv.answer hbegun _ _ _

theorem giveFrame (h : P s) (hmark : s.links.markReset = none) (f : List Byte) : P (s.giveFrame f) := by
  unfold State.giveFrame
  split
  · exact inv.giveRequest h hmark _ (fun _ ht hm => inv.actionOf _ ht hm _)
  · exact inv.unfollowed h rfl

theorem deliver (h : P s) (n : Node) (p : List Byte) : P (s.deliver n p) :=
  foldl_keeps (P := P) (fun _ _ ha => inv.finish (inv.sample _ _ _ _ _ (inv.mid ha))) _ s h

theorem track (h : P s) (n : Node) (q : Byte) (p : List Byte) : P (s.track n q p) := by
  unfold State.track
  dsimp only
  have hjudged : P (s.setSource n (s.sources[n].judged q)) := inv.unfollowed h rfl
  split
  · exact inv.deliver (inv.congr hjudged (.reportGap _ _ _ _)) n p
  · exact inv.congr hjudged (.reportGap _ _ _ _)

theorem classifyS (h : P s) (f : List Byte) : P (State.classifyS f s) := by
  have hoffered : P (s.offerSToC f) := inv.congr h (.offerSToC s f)
  unfold State.classifyS
  split
  · exact inv.congr hoffered (.raise _ _)
  · split
    · split
      · exact inv.track hoffered _ _ _
      · exact inv.congr hoffered (.raise _ _)
    · exact hoffered

theorem classifyC (h : P s) (hmark : s.links.markReset = none) (f : List Byte) : P (State.classifyC f s) := by
  have hsame := State.SameControl.offerCToS s f
  have hoffered : P (s.offerCToS f) := inv.congr h hsame
  unfold State.classifyC
  split
  · exact inv.congr hoffered (.raise _ _)
  · split
    · split
      · exact inv.giveFrame h hmark f
      · split
        · exact inv.giveFrame hoffered (hsame.markReset.trans hmark) f
        · exact hoffered
    · split
      · exact h
      · exact hoffered

theorem received (h : P s) (p : Port) {handle : State → State}
    (hh : ∀ t : State, P t → t.links.markReset = none → P (handle t)) : P (s.received p handle) := by
  unfold State.received
  dsimp only
  have hheard : P (s.modPort p PortState.goodInUp) := inv.congr h (.goodInUp s p)
  have hentered : P (s.enterUp p) := inv.congr h (.enterUp s p)
  split
  · exact h
  · split
    · split
      · exact hheard
      next hm => exact hh _ hheard (by simpa using hm)
    · split
      · exact hentered
      next hm => exact hh _ hentered (by simpa using hm)
    all_goals exact h

theorem frameArrives (h : P s) (p : Port) (f : List Byte) {classify : List Byte → State → State}
    (hh : ∀ t : State, P t → t.links.markReset = none → P (classify f t)) : P (s.frameArrives p f classify) := by
  unfold State.frameArrives
  split
  · exact inv.badCheck h p
  · split
    · exact inv.linkControl h p _
    · exact inv.received h p hh

theorem requestArrives (h : P s) (r : Request) {act : Action}
    (hact : ∀ t : State, P t → t.links.markReset = none → P (act r t)) : P (s.requestArrives r act) := by
  refine inv.received h .c (fun t ht hmark => ?_)
  unfold State.requestHandled
  split
  · exact inv.congr (inv.congr ht (.offerCToS t _)) (.raise _ _)
  · exact inv.giveRequest ht hmark r hact

/-! Every command and every step -/

theorem after (h : P s) (i : Instr) : P (s.after i) := by
  cases i with
  | powerApplied straps => exact inv.unfollowed (inv.held s straps .powerOn h) rfl
  | resetNLow => exact inv.held s _ _ h
  | resetNHigh =>
    unfold State.after State.resetHigh
    dsimp only
    split
    · exact inv.takeFullReset _ _
    · exact h
  | linkControlReceived p body => exact inv.linkControl h p body
  | badCheckFrame p => exact inv.badCheck h p
  | lossOfSignal p => exact inv.signalLost h p
  | phaseMinimumReached p => exact inv.congr h (.minimumReached s p)
  | phaseDeadline p => exact inv.congr h (.deadlineReached s p)
  | settleTimerExpiry p => exact inv.congr h (.settleExpires s p)
  | retryAttempt p => exact inv.congr h (.retryStarts s p)
  | resetMarkReceived p m => exact inv.markArrives h p m
  | markTransmissionEnd => exact inv.markEnds h
  | maskTimerExpiry => exact inv.unfollowed h rfl
  | portSFrameReceived frame => exact inv.frameArrives h .s frame (fun _ ht _ => inv.classifyS ht frame)
  | staleTimeout n => exact running h (inv.staleTimeout h n)
  | portCFrameReceived frame => exact inv.frameArrives h .c frame (fun _ ht hm => inv.classifyC ht hm frame)
  | portCFrameEnd => exact inv.endFrameC h
  | portSFrameEnd => exact inv.endFrameS h
  | resetPartReplyEnd => exact inv.endResetPartReply h
  | evaluationEnd => exact running h (inv.endEvaluation h)
  | eventSelection => exact running h (inv.congr h (.select s))
  | commitTimeout => exact running h (inv.commitExpires h)
  | holdExpiry => exact running h (inv.holdExpires h)
  | _ => exact inv.requestArrives h _ (fun _ ht hm => inv.actionOf _ ht hm _)

/-- What every event keeps, every step keeps. -/
theorem step {t : State} (h : P s) (hstep : Machine.step s = .next t) : P t :=
  step_keeps (P := P) (fun _ ht => inv.clockTick ht) (fun _ _ ht => inv.unfollowed ht rfl) (fun _ i ht => inv.after ht i)
    h hstep

end StepInvariant

/-! ## Invariants of the analysis -/

/-- A property of the groups, the windows, the Check Unit and commit control that every operation on them keeps. -/
structure AnalysisInvariant (P : State → Prop) : Prop where
  congr : ∀ {s t : State}, P s → t.SameAnalysis s → P t
  full : ∀ (pending : List Instr) (straps : BitVec 3) (mask : Option Nat) (cause : ResetCause),
    P (State.fullReset pending straps mask cause)
  restart : ∀ s : State, s.mgmt.commit = none → P s.restartBlocks
  tick : ∀ s : State, P s → P s.tickEngine.tickMgmt
  sample : ∀ (s : State) (g : Group) (c : Chan) (t : Tick) (v : Int), P s → P (s.takeSample g c t v)
  blind : ∀ (s : State) (g : Group), (s.group g).state = .seeking ∨ (s.group g).state = .tracking → P s → P (s.enterBlind g)
  handOff : ∀ (s : State) (e : Evaluation), s.ana.engine = some e → P s → P (s.handOff e.win)
  write : ∀ (s : State) (b : Bank), s.mgmt.commit = none → P s → P (s.setMgmt { s.mgmt with staging := b })
  accept : ∀ s : State, s.mgmt.commit = none → P s → P s.acceptCommit
  force : ∀ s : State, s.mgmt.commit.isSome = true → P s → P s.forceCommit
  adopt : ∀ (s : State) (c : Commit), s.mgmt.commit = some c → s.commitReady = true → P s → P (s.adoptStaging c)
  quiesce : ∀ (s : State) (g : Group), P s → P (s.quiesce g)
  quiesced : ∀ (s : State) (g : Group), P s → P (s.judgeQuiesced g)
  resume : ∀ (s : State) (g : Group), P s → P (s.resume g)

/-- Such a property holds throughout an event, so it is kept by every step. -/
theorem AnalysisInvariant.stepInvariant {P : State → Prop} (inv : AnalysisInvariant P) : StepInvariant P P where
  mid h := h
  within h same := inv.congr h same.toSameAnalysis
  congr h same := inv.congr h same.toSameAnalysis
  judged h _ := h
  full := inv.full
  restart := inv.restart
  tick := inv.tick
  sample := inv.sample
  blind := inv.blind
  handOff := inv.handOff
  write := inv.write
  accept := inv.accept
  force := inv.force
  adopt := inv.adopt
  quiesce := inv.quiesce
  quiesced := inv.quiesced
  resume := inv.resume
  endHold s x c h := inv.congr h (State.SameWithin.endHold s x c).toSameAnalysis
  held _ _ _ h := inv.congr h ⟨rfl, rfl, rfl, rfl, rfl, rfl⟩
  pass _ _ _ _ h := inv.congr h ⟨rfl, rfl, rfl, rfl, rfl, rfl⟩
  propagate _ _ _ h := inv.congr h ⟨rfl, rfl, rfl, rfl, rfl, rfl⟩

theorem AnalysisInvariant.step {P : State → Prop} (inv : AnalysisInvariant P) {s t : State} (h : P s)
    (hstep : Machine.step s = .next t) : P t := inv.stepInvariant.step h hstep

end Sys2Proof.Machine
end

section
/-! R65, R66 and R77 at every step: at most one OPEN and one SETTLING window in a group, none OPEN outside TRACKING, and
the Evaluation Queue exactly the QUEUED windows. In the middle of an operation on a group the last of these may fail for
that group, so the invariant is carried with one group exempt (`State.WindowsBut`). -/

namespace Sys2Proof.Machine

/-! ## Counting descriptors -/

/-- None in a state, counted. -/
theorem GroupCtx.countIn_eq_zero_iff (x : GroupCtx) (st : DescState) :
    x.countIn st = 0 ↔ ∀ d : Desc, x.descs[d].state ≠ st := by
  rw [GroupCtx.countIn, List.length_eq_zero_iff, List.filter_eq_nil_iff]
  simp only [beq_iff_eq, Vector.mem_toList_iff, Vector.mem_iff_getElem, forall_exists_index]
  exact ⟨fun h d => h _ d.val d.isLt rfl, fun h w i hi he => he ▸ h ⟨i, hi⟩⟩

theorem vector_eq_three {α : Type} (v : Vector α 3) : v = #v[v[0], v[1], v[2]] := by
  ext i hi
  match i, hi with
  | 0, _ => rfl
  | 1, _ => rfl
  | 2, _ => rfl

/-- At most one in a state, counted. -/
theorem GroupCtx.countIn_le_one_iff (x : GroupCtx) (st : DescState) :
    x.countIn st ≤ 1 ↔ ∀ d e : Desc, x.descs[d].state = st → x.descs[e].state = st → d = e := by
  rw [GroupCtx.countIn, vector_eq_three x.descs]
  by_cases h0 : x.descs[0].state = st <;> by_cases h1 : x.descs[1].state = st <;>
    by_cases h2 : x.descs[2].state = st <;> simp [Fin.forall_fin_succ, h0, h1, h2]

namespace State

/-! ## The invariant with a group exempt -/

/-- The windows and the Evaluation Queue are as R65 and R66 keep them, but that the exempt group may have a window OPEN
outside TRACKING. -/
structure WindowsBut (s : State) (exempt : Option Group) : Prop where
  opened : ∀ (g : Group) (d e : Desc), s.stateOf ⟨g, d⟩ = .opened → s.stateOf ⟨g, e⟩ = .opened → d = e
  settling : ∀ (g : Group) (d e : Desc), s.stateOf ⟨g, d⟩ = .settling → s.stateOf ⟨g, e⟩ = .settling → d = e
  closed : ∀ (g : Group) (d : Desc), exempt ≠ some g → s.stateOf ⟨g, d⟩ = .opened → (s.group g).state = .tracking
  room : s.ana.queue.length ≤ 16
  nodup : s.ana.queue.Nodup
  queued : ∀ w : WinRef, w ∈ s.ana.queue ↔ s.stateOf w = .queued
  engine : ∀ w : WinRef, s.ana.engine.map Evaluation.win = some w ↔ s.stateOf w = .evaluating

/-- No window of the group is OPEN. -/
def noneOpen (s : State) (g : Group) : Prop := ∀ d : Desc, s.stateOf ⟨g, d⟩ ≠ .opened

theorem windowsOk_iff (s : State) : s.WindowsOk ↔ s.WindowsBut none := by
  constructor
  · rintro ⟨hg, hroom, hnodup, hq, he⟩
    refine ⟨fun g => ?_, fun g => ?_, fun g d _ hd => ?_, hroom, hnodup, hq, he⟩
    · exact ((s.group g).countIn_le_one_iff _).mp (hg g).1
    · exact ((s.group g).countIn_le_one_iff _).mp (hg g).2.1
    · by_contra hstate
      exact ((s.group g).countIn_eq_zero_iff _).mp ((hg g).2.2 hstate) d hd
  · intro h
    refine ⟨fun g => ⟨?_, ?_, fun hstate => ?_⟩, h.room, h.nodup, h.queued, h.engine⟩
    · exact ((s.group g).countIn_le_one_iff _).mpr (h.opened g)
    · exact ((s.group g).countIn_le_one_iff _).mpr (h.settling g)
    · exact ((s.group g).countIn_eq_zero_iff _).mpr (fun d hd => hstate (h.closed g d (by simp) hd))

/-- The state of a group is not a matter of its descriptors. -/
theorem state_setDescState (s : State) (w : WinRef) (st : DescState) (k : Group) :
    ((s.setDescState w st).group k).state = (s.group k).state := by
  rw [setDescState, group_modGroup]
  split
  next e => rw [e]; rfl
  next => rfl

theorem state_freeDesc (s : State) (w : WinRef) (k : Group) :
    ((s.freeDesc w).group k).state = (s.group k).state := by
  rw [State.freeDesc, group_modGroup]
  split
  next e =>
    obtain ⟨store, hx⟩ := (s.group w.group).freeDesc_eq w.desc
    rw [hx, e]; rfl
  next => rfl

namespace WindowsBut

variable {s t : State} {x : Option Group} {g : Group}

/-- A group may be exempted. -/
theorem exempt (h : s.WindowsBut none) (g : Group) : s.WindowsBut (some g) :=
  { h with closed := fun k d _ hd => h.closed k d (by simp) hd }

/-- The exempt group is TRACKING, so it needs no exemption. -/
theorem of_tracking (h : s.WindowsBut (some g)) (hg : (s.group g).state = .tracking) : s.WindowsBut none := by
  refine { h with closed := fun k d _ hd => ?_ }
  by_cases hk : g = k
  · exact hk ▸ hg
  · exact h.closed k d (by simpa using hk) hd

/-- The exempt group has no window OPEN, so it needs no exemption. -/
theorem of_noneOpen (h : s.WindowsBut (some g)) (hg : s.noneOpen g) : s.WindowsBut none := by
  refine { h with closed := fun k d _ hd => ?_ }
  by_cases hk : g = k
  · exact absurd hd (hk ▸ hg d)
  · exact h.closed k d (by simpa using hk) hd

/-- Outside TRACKING no window is OPEN. -/
theorem noneOpen (h : s.WindowsBut none) (hg : (s.group g).state ≠ .tracking) : s.noneOpen g :=
  fun d hd => hg (h.closed g d (by simp) hd)

/-- The only window that may be OPEN is the one found. -/
theorem eq_of_opened (h : s.WindowsBut x) {d e : Desc} (hd : (s.group g).descIn .opened = some d)
    (he : s.stateOf ⟨g, e⟩ = .opened) : e = d :=
  h.opened g e d he (GroupCtx.state_of_descIn (x := s.group g) hd)

/-- The windows are the same and no group that is not exempt has left TRACKING. -/
theorem of_same (h : s.WindowsBut x) (hw : ∀ w : WinRef, t.stateOf w = s.stateOf w) (hq : t.ana.queue = s.ana.queue)
    (he : t.ana.engine.map Evaluation.win = s.ana.engine.map Evaluation.win)
    (hg : ∀ k : Group, x ≠ some k → (s.group k).state = .tracking → (t.group k).state = .tracking) :
    t.WindowsBut x where
  opened k d e hd he := h.opened k d e (hw _ ▸ hd) (hw _ ▸ he)
  settling k d e hd he := h.settling k d e (hw _ ▸ hd) (hw _ ▸ he)
  closed k d hk hd := hg k hk (h.closed k d hk (hw _ ▸ hd))
  room := hq ▸ h.room
  nodup := hq ▸ h.nodup
  queued w := by rw [hq, hw]; exact h.queued w
  engine w := by rw [he, hw]; exact h.engine w

theorem of_ana (h : s.WindowsBut x) (ha : t.ana = s.ana) : t.WindowsBut x := by
  have hg : ∀ k, t.group k = s.group k := fun k => by rw [State.group, ha]; rfl
  refine h.of_same (fun w => ?_) (by rw [ha]) (by rw [ha]) (fun k _ hk => by rw [hg]; exact hk)
  rw [stateOf, hg]; rfl

/-- A change of the exempt group that keeps its descriptors' states. -/
theorem modGroup (h : s.WindowsBut (some g)) {f : GroupCtx → GroupCtx}
    (hf : ∀ (y : GroupCtx) (d : Desc), (f y).descs[d].state = y.descs[d].state) :
    (s.modGroup g f).WindowsBut (some g) := by
  refine h.of_same (s.stateOf_modGroup_same g (hf _)) rfl rfl (fun k hk htrack => ?_)
  rwa [s.group_modGroup_ne f (fun e => hk (by rw [e]))]

/-- One descriptor changes its state, not to OPEN, and to SETTLING only in a group without a SETTLING window; the queue and
the engine follow it. -/
theorem move (h : s.WindowsBut x) {w : WinRef} {y : DescState}
    (hw : ∀ v : WinRef, t.stateOf v = if v = w then y else s.stateOf v)
    (hg : ∀ k : Group, (t.group k).state = (s.group k).state) (hopen : y ≠ .opened)
    (hsettling : y = .settling → ∀ d : Desc, s.stateOf ⟨w.group, d⟩ ≠ .settling)
    (room : t.ana.queue.length ≤ 16) (nodup : t.ana.queue.Nodup)
    (queued : ∀ v : WinRef, v ∈ t.ana.queue ↔ t.stateOf v = .queued)
    (engine : ∀ v : WinRef, t.ana.engine.map Evaluation.win = some v ↔ t.stateOf v = .evaluating) : t.WindowsBut x := by
  have hold : ∀ v : WinRef, t.stateOf v = .opened → s.stateOf v = .opened := by
    intro v hv
    rw [hw] at hv
    split at hv
    · exact absurd hv hopen
    · exact hv
  refine ⟨fun k d e hd he => h.opened k d e (hold _ hd) (hold _ he), fun k d e hd he => ?_,
    fun k d hk hd => (hg k).trans (h.closed k d hk (hold _ hd)), room, nodup, queued, engine⟩
  rw [hw] at hd he
  split at hd <;> split at he
  next h1 h2 => exact (WinRef.mk.injEq _ _ _ _ ▸ h1.trans h2.symm).2
  next h1 h2 => subst h1; exact absurd he (hsettling hd e)
  next h1 h2 => subst h2; exact absurd hd (hsettling he d)
  next => exact h.settling k d e hd he

/-! ## The moves of windows -/

/-- A window that is neither QUEUED nor EVALUATING is freed. -/
theorem freeDesc (h : s.WindowsBut x) {w : WinRef} (hq : s.stateOf w ≠ .queued) (he : s.stateOf w ≠ .evaluating) :
    (s.freeDesc w).WindowsBut x := by
  refine h.move (s.stateOf_freeDesc w) (s.state_freeDesc w) (by decide) (by intro e; cases e) h.room h.nodup
    (fun v => ?_) (fun v => ?_)
  · rw [s.stateOf_freeDesc]
    split
    next e => exact iff_of_false (fun hv => hq (e ▸ (h.queued v).mp hv)) (by decide)
    next => exact h.queued v
  · rw [s.stateOf_freeDesc]
    split
    next e => exact iff_of_false (fun hv => he (e ▸ (h.engine v).mp hv)) (by decide)
    next => exact h.engine v

/-- A QUEUED window is withdrawn and freed. -/
theorem withdraw (h : s.WindowsBut x) {w : WinRef} (hw : s.stateOf w = .queued) :
    ((s.freeDesc w).setAna { (s.freeDesc w).ana with queue := (s.freeDesc w).ana.queue.erase w }).WindowsBut x := by
  have hfree := s.stateOf_freeDesc w
  refine h.move (y := .free) hfree (s.state_freeDesc w) (by decide) (by intro e; cases e)
    (List.length_erase_le.trans h.room) (h.nodup.erase w) (fun v => ?_) (fun v => ?_)
  · refine (h.nodup.mem_erase_iff).trans ?_
    refine Iff.trans ?_ (Eq.congr_left (hfree v)).symm
    split
    next e => exact iff_of_false (fun hv => hv.1 e) (by decide)
    next e => exact (and_iff_right e).trans (h.queued v)
  · refine Iff.trans ?_ (Eq.congr_left (hfree v)).symm
    split
    next e => exact iff_of_false (fun hv => by rw [e] at hv; exact absurd ((h.engine w).mp hv) (by rw [hw]; decide)) (by decide)
    next => exact h.engine v

/-- The engine takes the head of the queue. -/
theorem engineTake (h : s.WindowsBut x) : s.engineTake.WindowsBut x := by
  unfold State.engineTake
  split
  next w rest hidle hq =>
    have hset := fun v => s.stateOf_setDescState w v .evaluating
    have hw : ∀ v : WinRef, v ∈ rest → v ≠ w := by
      have := h.nodup
      rw [hq, List.nodup_cons] at this
      exact fun v hv e => this.1 (e ▸ hv)
    refine h.move (y := .evaluating) hset (s.state_setDescState w _) (by decide) (by intro e; cases e) ?_ ?_
      (fun v => ?_) (fun v => ?_)
    · have := h.room
      rw [hq] at this
      exact (Nat.le_succ _).trans this
    · have := h.nodup
      rw [hq] at this
      exact this.of_cons
    · refine Iff.trans ?_ (Eq.congr_left (hset v)).symm
      split
      next e => exact iff_of_false (fun hv => hw v hv e) (by decide)
      next e =>
        rw [← h.queued v, hq, List.mem_cons]
        exact (or_iff_right e).symm
    · refine Iff.trans ?_ (Eq.congr_left (hset v)).symm
      show some w = some v ↔ _
      split
      next e => simp [e]
      next e =>
        refine iff_of_false (fun hv => e (Option.some.inj hv).symm) (fun hv => ?_)
        have := (h.engine v).mpr hv
        rw [hidle] at this
        cases this
  next => exact h

/-- A SETTLING window settles. -/
theorem settle (h : s.WindowsBut x) {w : WinRef} (hw : s.stateOf w = .settling) : (s.settle w).WindowsBut x := by
  unfold State.settle
  split
  next hroom =>
    have hset := fun v => s.stateOf_setDescState w v .queued
    have hnot : w ∉ s.ana.queue := fun hv => by
      have := (h.queued w).mp hv
      rw [hw] at this
      cases this
    refine engineTake (h.move (y := .queued) hset (s.state_setDescState w _) (by decide) (by intro e; cases e) ?_ ?_
      (fun v => ?_) (fun v => ?_))
    · show (s.ana.queue ++ [w]).length ≤ 16
      rw [List.length_append]
      exact hroom
    · show (s.ana.queue ++ [w]).Nodup
      rw [List.nodup_append_comm]
      exact List.nodup_cons.mpr ⟨hnot, h.nodup⟩
    · refine Iff.trans ?_ (Eq.congr_left (hset v)).symm
      show v ∈ s.ana.queue ++ [w] ↔ _
      rw [List.mem_append, List.mem_singleton]
      split
      next e => simp [e]
      next e => rw [or_iff_left e]; exact h.queued v
    · refine Iff.trans ?_ (Eq.congr_left (hset v)).symm
      split
      next e =>
        refine iff_of_false (fun hv => ?_) (by decide)
        have := (h.engine v).mp hv
        rw [e, hw] at this
        cases this
      next => exact h.engine v
  next => exact of_ana (h.freeDesc (by rw [hw]; decide) (by rw [hw]; decide)) rfl

end WindowsBut

/-! ## What becomes of the other windows -/

theorem state_engineTake (s : State) (k : Group) : ((s.engineTake).group k).state = (s.group k).state := by
  unfold engineTake
  split
  · exact s.state_setDescState _ _ k
  · rfl

theorem state_settle (s : State) (w : WinRef) (k : Group) : ((s.settle w).group k).state = (s.group k).state := by
  unfold settle
  split
  · exact (state_engineTake _ k).trans (s.state_setDescState _ _ k)
  · exact s.state_freeDesc w k

/-- The engine moves no window but the head of the queue. -/
theorem stateOf_engineTake (s : State) (v : WinRef) :
    s.engineTake.stateOf v = s.stateOf v ∨ (v ∈ s.ana.queue ∧ s.engineTake.stateOf v = .evaluating) := by
  unfold engineTake
  split
  next w rest _ hq =>
    by_cases hv : v = w
    · exact .inr ⟨by rw [hq, hv]; exact List.mem_cons_self, (s.stateOf_setDescState w v _).trans (if_pos hv)⟩
    · exact .inl ((s.stateOf_setDescState w v _).trans (if_neg hv))
  next => exact .inl rfl

/-- A window settles to QUEUED or EVALUATING, or to FREE where the queue is full; no other window moves but the head of
the queue. -/
theorem stateOf_settle (s : State) (w v : WinRef) :
    (v ≠ w → (s.settle w).stateOf v = s.stateOf v ∨ (v ∈ s.ana.queue ∧ (s.settle w).stateOf v = .evaluating)) ∧
    ((s.settle w).stateOf w = .queued ∨ (s.settle w).stateOf w = .evaluating ∨
      (16 ≤ s.ana.queue.length ∧ (s.settle w).stateOf w = .free)) := by
  unfold settle
  split
  next =>
    have hset := fun u => s.stateOf_setDescState w u .queued
    refine ⟨fun hv => ?_, ?_⟩
    · obtain h | ⟨hm, h⟩ := stateOf_engineTake ((s.setDescState w .queued).setAna
        { (s.setDescState w .queued).ana with queue := (s.setDescState w .queued).ana.queue ++ [w] }) v
      · exact .inl (h.trans ((hset v).trans (if_neg hv)))
      · have hm' : v ∈ s.ana.queue ++ [w] := hm
        rw [List.mem_append, List.mem_singleton, or_iff_left hv] at hm'
        exact .inr ⟨hm', h⟩
    · obtain h | ⟨-, h⟩ := stateOf_engineTake ((s.setDescState w .queued).setAna
        { (s.setDescState w .queued).ana with queue := (s.setDescState w .queued).ana.queue ++ [w] }) w
      · exact .inl (h.trans ((hset w).trans (if_pos rfl)))
      · exact .inr (.inl h)
  next hfull =>
    refine ⟨fun hv => .inl ((s.stateOf_freeDesc w v).trans (if_neg hv)), .inr (.inr ⟨Nat.not_lt.mp hfull, ?_⟩)⟩
    exact (s.stateOf_freeDesc w w).trans (if_pos rfl)

/-- A settling window opens none. -/
theorem noneOpen_settle {s : State} {g : Group} (h : s.noneOpen g) (w : WinRef) : (s.settle w).noneOpen g := by
  intro d hd
  obtain ⟨hother, hself⟩ := s.stateOf_settle w ⟨g, d⟩
  by_cases hv : (⟨g, d⟩ : WinRef) = w
  · rw [← hv] at hself hd
    obtain h1 | h1 | ⟨-, h1⟩ := hself <;> rw [hd] at h1 <;> cases h1
  · obtain h1 | ⟨-, h1⟩ := hother hv
    · exact h d (h1 ▸ hd)
    · rw [hd] at h1; cases h1

theorem noneOpen_settleNow {s : State} {g : Group} (h : s.noneOpen g) (k : Group) : (s.settleNow k).noneOpen g := by
  unfold settleNow
  split
  · exact noneOpen_settle h _
  · exact h

/-- The OPEN window discarded, none is OPEN. -/
theorem noneOpen_freeDesc {s : State} {x : Option Group} {g : Group} (h : s.WindowsBut x) {d : Desc}
    (hd : s.stateOf ⟨g, d⟩ = .opened) : (s.freeDesc ⟨g, d⟩).noneOpen g := by
  intro e he
  rw [stateOf_freeDesc] at he
  split at he
  · cases he
  next hne => exact hne (by rw [h.opened g e d he hd])

theorem noneOpen_discardOpen {s : State} {x : Option Group} {g : Group} (h : s.WindowsBut x) :
    (s.discardOpen g).noneOpen g := by
  unfold discardOpen
  split
  next d hd => exact noneOpen_freeDesc h (GroupCtx.state_of_descIn hd)
  next hd => exact ((s.group g).descIn_eq_none_iff _).mp hd

theorem noneOpen_modGroup {s : State} {g : Group} (h : s.noneOpen g) (k : Group) {f : GroupCtx → GroupCtx}
    (hf : ∀ (y : GroupCtx) (d : Desc), (f y).descs[d].state = y.descs[d].state) : (s.modGroup k f).noneOpen g :=
  fun d => by rw [s.stateOf_modGroup_same k (hf _)]; exact h d

/-! ## Switches and openings -/

theorem setLimitStates_ana (s : State) (g : Group) (x : Vector LimitState 96) : (s.setLimitStates g x).ana = s.ana := by
  unfold setLimitStates
  split <;> rfl

/-- A switch of a group changes its generation and its rejection count, and clears its last verdict (R71). -/
theorem switchGroup_ana {s : State} {c : Commit} (h : s.mgmt.commit = some c) (g : Group) :
    (s.switchGroup g).ana =
      { (s.modGroup g (fun x => { x with gen := c.stagingGen, rejects := 0 })).ana with
        lastVerdicts := s.ana.lastVerdicts.set g none } := by
  unfold switchGroup
  rw [h]
  dsimp only
  rw [(SameControl.abortSnapshot _ _).ana, setAna_ana]
  have hchecks : ∀ t : State, ((t.clearChecks g).setLatch g none).ana = t.ana := fun t => setLimitStates_ana _ _ _
  rw [hchecks]
  rfl

/-- The groups after a switch of one. -/
theorem group_switchGroup {s : State} {c : Commit} (h : s.mgmt.commit = some c) (g k : Group) :
    (s.switchGroup g).group k =
      if k = g then { s.group g with gen := c.stagingGen, rejects := 0 } else s.group k := by
  rw [State.group, switchGroup_ana h]
  exact s.group_modGroup g k (fun x => { x with gen := c.stagingGen, rejects := 0 })

theorem switchGroup_idle {s : State} (h : s.mgmt.commit = none) (g : Group) : s.switchGroup g = s := by
  unfold switchGroup
  rw [h]

/-- A switch moves no window and changes no group's state. -/
theorem switchGroup_windows (s : State) (g : Group) :
    (∀ w : WinRef, (s.switchGroup g).stateOf w = s.stateOf w) ∧
    (∀ k : Group, ((s.switchGroup g).group k).state = (s.group k).state) ∧
    (s.switchGroup g).ana.queue = s.ana.queue ∧ (s.switchGroup g).ana.engine = s.ana.engine := by
  cases hc : s.mgmt.commit with
  | none => rw [switchGroup_idle hc]; exact ⟨fun _ => rfl, fun _ => rfl, rfl, rfl⟩
  | some c =>
    refine ⟨fun w => ?_, fun k => ?_, by rw [switchGroup_ana hc]; rfl, by rw [switchGroup_ana hc]; rfl⟩
    · rw [stateOf, group_switchGroup hc]
      split
      next e => subst e; rfl
      next => rfl
    · rw [group_switchGroup hc]
      split
      next e => rw [e]
      next => rfl

theorem noneOpen_switchGroup {s : State} {g : Group} (h : s.noneOpen g) (k : Group) : (s.switchGroup k).noneOpen g :=
  fun d => by rw [(s.switchGroup_windows k).1]; exact h d

theorem GroupCtx.seekOrOff_descs (x : GroupCtx) (p : Plan) : (x.seekOrOff p).descs = x.descs := by
  unfold GroupCtx.seekOrOff
  split <;> rfl

/-- The other windows of a settling window's group that are not QUEUED stay as they are. -/
theorem stateOf_settle_of_ne {s : State} {x : Option Group} (h : s.WindowsBut x) {v w : WinRef} (hne : v ≠ w)
    (hv : s.stateOf v ≠ .queued) : (s.settle w).stateOf v = s.stateOf v := by
  obtain h1 | ⟨hm, -⟩ := (s.stateOf_settle w v).1 hne
  · exact h1
  · exact absurd ((h.queued v).mp hm) hv

namespace WindowsBut

variable {s t : State} {x : Option Group} {g : Group}

theorem switchGroup (h : s.WindowsBut x) (g : Group) : (s.switchGroup g).WindowsBut x := by
  obtain ⟨hw, hg, hq, he⟩ := s.switchGroup_windows g
  exact h.of_same hw hq (by rw [he]) (fun k _ hk => (hg k).trans hk)

theorem settleNow (h : s.WindowsBut x) (g : Group) : (s.settleNow g).WindowsBut x := by
  unfold State.settleNow
  split
  next d hd => exact h.settle (GroupCtx.state_of_descIn hd)
  next => exact h

/-- What settles at once leaves no window SETTLING. -/
theorem settled (h : s.WindowsBut x) (g : Group) (d : Desc) : (s.settleNow g).stateOf ⟨g, d⟩ ≠ .settling := by
  unfold State.settleNow
  split
  next e he =>
    intro hd
    have hset : s.stateOf ⟨g, e⟩ = .settling := GroupCtx.state_of_descIn he
    obtain ⟨hother, hself⟩ := s.stateOf_settle ⟨g, e⟩ ⟨g, d⟩
    by_cases hv : (⟨g, d⟩ : WinRef) = ⟨g, e⟩
    · rw [← hv] at hself hd
      obtain h1 | h1 | ⟨-, h1⟩ := hself <;> rw [hd] at h1 <;> cases h1
    · obtain h1 | ⟨-, h1⟩ := hother hv
      · exact hv (by rw [h.settling g d e (h1 ▸ hd) hset])
      · rw [hd] at h1; cases h1
  next hnone => exact ((s.group g).descIn_eq_none_iff _).mp hnone d

/-- A window that is neither SETTLING nor QUEUED stays as it is when another settles. -/
theorem stateOf_settleNow (h : s.WindowsBut x) (k : Group) {v : WinRef} (hq : s.stateOf v ≠ .queued)
    (hs : s.stateOf v ≠ .settling) : (s.settleNow k).stateOf v = s.stateOf v := by
  unfold State.settleNow
  split
  next e he => exact stateOf_settle_of_ne h (fun hv => hs (hv ▸ GroupCtx.state_of_descIn he)) hq
  next => rfl

theorem judgeSettlement (h : s.WindowsBut x) (g : Group) : (s.judgeSettlement g).WindowsBut x := by
  unfold State.judgeSettlement
  dsimp only
  split
  · exact h
  next d hd =>
    split
    · exact h.settle (GroupCtx.state_of_descIn hd)
    · exact h

theorem discardOpen (h : s.WindowsBut x) (g : Group) : (s.discardOpen g).WindowsBut x := by
  unfold State.discardOpen
  split
  next d hd =>
    have hopen : s.stateOf ⟨g, d⟩ = .opened := GroupCtx.state_of_descIn hd
    exact h.freeDesc (by rw [hopen]; decide) (by rw [hopen]; decide)
  next => exact h

theorem withdrawOldest (h : s.WindowsBut x) (g : Group) : (s.withdrawOldest g).WindowsBut x := by
  unfold State.withdrawOldest
  split
  next w hw => exact of_ana (h.withdraw ((h.queued w).mp (List.mem_of_find?_eq_some hw))) rfl
  next => exact h

end WindowsBut

theorem noneOpen_withdrawOldest {s : State} {g : Group} (h : s.noneOpen g) (k : Group) :
    (s.withdrawOldest k).noneOpen g := by
  unfold withdrawOldest
  split
  next w _ =>
    intro d hd
    have hd' : (s.freeDesc w).stateOf ⟨g, d⟩ = .opened := hd
    rw [stateOf_freeDesc] at hd'
    split at hd'
    · cases hd'
    · exact h d hd'
  next => exact h

theorem state_withdrawOldest (s : State) (g k : Group) : ((s.withdrawOldest g).group k).state = (s.group k).state := by
  unfold withdrawOldest
  split
  · exact s.state_freeDesc _ k
  · rfl

theorem state_openWindow (s : State) (g : Group) (t : Tick) (k : Group) :
    ((s.openWindow g t).group k).state = (s.group k).state := by
  unfold openWindow
  dsimp only
  have hroom : ((if ((s.group g).descIn .free).isNone then s.withdrawOldest g else s).group k).state =
      (s.group k).state := by
    split
    · exact s.state_withdrawOldest g k
    · rfl
  split
  · rw [group_modGroup]
    split
    next e => exact e ▸ hroom
    next => exact hroom
  · exact hroom

namespace WindowsBut

variable {s t : State} {x : Option Group} {g : Group}

/-- A FREE descriptor of the exempt group, which has none OPEN, is opened. -/
theorem openFree (h : s.WindowsBut (some g)) (hnone : s.noneOpen g) {d : Desc} (hd : s.stateOf ⟨g, d⟩ = .free)
    {f : GroupCtx → GroupCtx} {y : Descriptor} (hy : y.state = .opened)
    (hf : ∀ e : Desc, (f (s.group g)).descs[e] = if e = d then y else (s.group g).descs[e]) :
    (s.modGroup g f).WindowsBut (some g) := by
  have hw : ∀ v : WinRef, (s.modGroup g f).stateOf v = if v = ⟨g, d⟩ then .opened else s.stateOf v := fun v => by
    rw [s.stateOf_modGroup_desc ⟨g, d⟩ v hf, hy]
  have hother : ∀ v : WinRef, (s.modGroup g f).stateOf v ≠ .opened → (s.modGroup g f).stateOf v = s.stateOf v := by
    intro v hv
    rw [hw] at hv ⊢
    split
    next e => rw [if_pos e] at hv; exact absurd rfl hv
    next => rfl
  refine ⟨fun k a b ha hb => ?_, fun k a b ha hb => ?_, fun k a hk ha => ?_, h.room, h.nodup, fun v => ?_, fun v => ?_⟩
  · rw [hw] at ha hb
    split at ha <;> split at hb
    next h1 h2 => exact congrArg WinRef.desc (h1.trans h2.symm)
    next h1 h2 => obtain ⟨rfl, -⟩ := WinRef.eq_iff.mp h1; exact absurd hb (hnone b)
    next h1 h2 => obtain ⟨rfl, -⟩ := WinRef.eq_iff.mp h2; exact absurd ha (hnone a)
    next => exact h.opened k a b ha hb
  · rw [hother _ (by rw [ha]; decide)] at ha
    rw [hother _ (by rw [hb]; decide)] at hb
    exact h.settling k a b ha hb
  · have hkg : k ≠ g := fun e => hk (by rw [e])
    rw [s.group_modGroup_ne f hkg]
    rw [hw, if_neg (fun e => hkg (congrArg WinRef.group e))] at ha
    exact h.closed k a hk ha
  · refine (h.queued v).trans ?_
    rw [hw]
    split
    next e => exact iff_of_false (by rw [e, hd]; decide) (by decide)
    next => exact Iff.rfl
  · refine (h.engine v).trans ?_
    rw [hw]
    split
    next e => exact iff_of_false (by rw [e, hd]; decide) (by decide)
    next => exact Iff.rfl

theorem openWindow (h : s.WindowsBut (some g)) (hnone : s.noneOpen g) (t : Tick) :
    (s.openWindow g t).WindowsBut (some g) := by
  unfold State.openWindow
  dsimp only
  have hroom : (if ((s.group g).descIn .free).isNone then s.withdrawOldest g else s).WindowsBut (some g) ∧
      (if ((s.group g).descIn .free).isNone then s.withdrawOldest g else s).noneOpen g := by
    split
    · exact ⟨h.withdrawOldest g, noneOpen_withdrawOldest hnone g⟩
    · exact ⟨h, hnone⟩
  split
  next d hd =>
    exact hroom.1.openFree hroom.2 (GroupCtx.state_of_descIn hd) rfl (fun e => GroupCtx.descs_setDesc _ d e _)
  next => exact hroom.1

theorem takeSeekOrOff (h : s.WindowsBut (some g)) : (s.takeSeekOrOff g).WindowsBut (some g) :=
  h.modGroup (fun _ _ => by rw [GroupCtx.seekOrOff_descs])

/-- A boundary of a group without an OPEN window (R72). -/
theorem boundarySwitch (h : s.WindowsBut (some g)) (hnone : s.noneOpen g) :
    (s.boundarySwitch g).WindowsBut (some g) ∧ (s.boundarySwitch g).noneOpen g := by
  unfold State.boundarySwitch
  split
  · dsimp only
    have hswitched := h.switchGroup g
    have hnone' := noneOpen_switchGroup hnone g
    split
    · exact ⟨hswitched, hnone'⟩
    · exact ⟨(hswitched.settleNow g).modGroup (fun _ _ => rfl),
        noneOpen_modGroup (noneOpen_settleNow hnone' g) g (fun _ _ => rfl)⟩
  · exact ⟨h, hnone⟩

theorem boundary (h : s.WindowsBut (some g)) (hnone : s.noneOpen g) (t : Tick) : (s.boundary g t).WindowsBut none := by
  unfold State.boundary
  dsimp only
  have hcleared : (s.modGroup g (fun x => { x with arm := false })).WindowsBut (some g) := h.modGroup (fun _ _ => rfl)
  obtain ⟨hb, hn⟩ := hcleared.boundarySwitch (noneOpen_modGroup hnone g (fun _ _ => rfl))
  split
  next htrack =>
    refine (hb.openWindow hn t).of_tracking ?_
    rw [state_openWindow]
    exact eq_of_beq htrack
  next => exact hb.of_noneOpen hn

theorem enterBlind (h : s.WindowsBut (some g)) : (s.enterBlind g).WindowsBut none := by
  unfold State.enterBlind
  dsimp only
  have hraised : (s.raise .groupBlind).WindowsBut (some g) := h.of_ana rfl
  have hblind : ((s.raise .groupBlind).modGroup g (fun x => { x with state := .blind })).WindowsBut (some g) :=
    hraised.modGroup (fun _ _ => rfl)
  have hb := ((hblind.discardOpen g).settleNow g).modGroup (f := fun x => { x with arm := false }) (fun _ _ => rfl)
  have hn := noneOpen_modGroup (noneOpen_settleNow (noneOpen_discardOpen (g := g) hblind) g) g
    (f := fun x => { x with arm := false }) (fun _ _ => rfl)
  split
  · refine (hb.switchGroup g).takeSeekOrOff.of_noneOpen ?_
    exact noneOpen_modGroup (noneOpen_switchGroup hn g) g (fun _ _ => by rw [GroupCtx.seekOrOff_descs])
  · exact hb.of_noneOpen hn

/-- A group outside TRACKING changes its state, no descriptor changing its own. -/
theorem modGroup_closed (h : s.WindowsBut none) (hstate : (s.group g).state ≠ .tracking) {f : GroupCtx → GroupCtx}
    (hf : ∀ (y : GroupCtx) (d : Desc), (f y).descs[d].state = y.descs[d].state) : (s.modGroup g f).WindowsBut none :=
  ((h.exempt g).modGroup hf).of_noneOpen (noneOpen_modGroup (h.noneOpen hstate) g hf)

theorem enterQuiesced (h : s.WindowsBut none) (hstate : (s.group g).state ≠ .tracking) :
    (s.enterQuiesced g).WindowsBut none := by
  unfold State.enterQuiesced
  dsimp only
  have hb : (s.modGroup g (fun x => { x with
      state := .quiesced, frontiers := Vector.replicate 8 none, lastRef := none, arm := false })).WindowsBut none :=
    h.modGroup_closed hstate (fun _ _ => rfl)
  have hmarked := hb.of_ana (t := (((s.modGroup g (fun x => { x with
    state := .quiesced, frontiers := Vector.replicate 8 none, lastRef := none, arm := false })).clearChecks g).setLatch g
      none).offerMarker (.groupQuiesced g)) (setLimitStates_ana _ _ _)
  split
  · exact hmarked.switchGroup g
  · exact hmarked

theorem judgeQuiesced (h : s.WindowsBut none) (g : Group) : (s.judgeQuiesced g).WindowsBut none := by
  unfold State.judgeQuiesced
  split
  next hq =>
    refine h.enterQuiesced (fun e => ?_)
    rw [e] at hq
    cases hq
  next => exact h

/-! ## Reference samples -/

theorem rejectWindow (h : s.WindowsBut none) {d : Desc} (hd : s.stateOf ⟨g, d⟩ = .opened) (t : Tick) :
    (s.rejectWindow g d t).WindowsBut none := by
  unfold State.rejectWindow
  dsimp only
  have hfreed : (s.freeDesc ⟨g, d⟩).WindowsBut (some g) :=
    (h.freeDesc (by rw [hd]; decide) (by rw [hd]; decide)).exempt g
  have hraised := hfreed.of_ana (t := (s.freeDesc ⟨g, d⟩).raiseDetail .windowRejected
    (.windowRejected g (s.group g).descs[d].number)) rfl
  have hb := hraised.modGroup (f := fun x => { x with rejects := x.rejects + 1 }) (fun _ _ => rfl)
  split
  · exact hb.boundary (noneOpen_modGroup (s := (s.freeDesc ⟨g, d⟩).raiseDetail .windowRejected
      (.windowRejected g (s.group g).descs[d].number)) (noneOpen_freeDesc h hd) g (fun _ _ => rfl)) t
  · exact hb.enterBlind

/-- The OPEN window of a group without a SETTLING one closes. -/
theorem closeOpen (h : s.WindowsBut x) {d : Desc} (hd : s.stateOf ⟨g, d⟩ = .opened)
    (hnone : ∀ e : Desc, s.stateOf ⟨g, e⟩ ≠ .settling) {f : GroupCtx → GroupCtx} {y : Descriptor} (hy : y.state = .settling)
    (hf : ∀ e : Desc, (f (s.group g)).descs[e] = if e = d then y else (s.group g).descs[e])
    (hstate : (f (s.group g)).state = (s.group g).state) :
    (s.modGroup g f).WindowsBut x ∧ (s.modGroup g f).noneOpen g := by
  have hw : ∀ v : WinRef, (s.modGroup g f).stateOf v = if v = ⟨g, d⟩ then .settling else s.stateOf v := fun v => by
    rw [s.stateOf_modGroup_desc ⟨g, d⟩ v hf, hy]
  refine ⟨h.move hw (fun k => ?_) (by decide) (fun _ => hnone) h.room h.nodup (fun v => ?_) (fun v => ?_), fun e he => ?_⟩
  · rw [s.group_modGroup]
    split
    next e => rw [hstate, e]
    next => rfl
  · refine (h.queued v).trans ?_
    rw [hw]
    split
    next e => exact iff_of_false (by rw [e, hd]; decide) (by decide)
    next => exact Iff.rfl
  · refine (h.engine v).trans ?_
    rw [hw]
    split
    next e => exact iff_of_false (by rw [e, hd]; decide) (by decide)
    next => exact Iff.rfl
  · rw [hw] at he
    split at he
    · cases he
    next hne => exact hne (by rw [h.opened g e d he hd])

theorem closeWindow (h : s.WindowsBut none) {d : Desc} (hd : s.stateOf ⟨g, d⟩ = .opened) (t : Tick) :
    (s.closeWindow g d t).WindowsBut none := by
  unfold State.closeWindow
  dsimp only
  have hsettled := h.settleNow g
  have hopen : (s.settleNow g).stateOf ⟨g, d⟩ = .opened :=
    (h.stateOf_settleNow g (by rw [hd]; decide) (by rw [hd]; decide)).trans hd
  refine (boundary (g := g) ?_ ?_ t).judgeSettlement g
  · split
    · exact (hsettled.freeDesc (by rw [hopen]; decide) (by rw [hopen]; decide)).exempt g
    · exact (hsettled.closeOpen hopen (h.settled g) rfl (fun e => GroupCtx.descs_setDesc _ d e _) rfl).1.exempt g
  · split
    · exact noneOpen_freeDesc hsettled hopen
    · exact (hsettled.closeOpen hopen (h.settled g) rfl (fun e => GroupCtx.descs_setDesc _ d e _) rfl).2

/-- A change of a group that keeps its descriptors' states and the group's own. -/
theorem modGroup_same (h : s.WindowsBut x) (g : Group) {f : GroupCtx → GroupCtx}
    (hf : ∀ (y : GroupCtx) (d : Desc), (f y).descs[d].state = y.descs[d].state)
    (hs : ∀ y : GroupCtx, (f y).state = y.state) : (s.modGroup g f).WindowsBut x := by
  refine h.of_same (s.stateOf_modGroup_same g (hf _)) rfl rfl (fun k _ htrack => ?_)
  rw [s.group_modGroup]
  split
  next e => rw [hs, ← e]; exact htrack
  next => exact htrack

theorem armBy (h : s.WindowsBut x) (g : Group) (p : Plan) (v : Int) : (s.armBy g p v).WindowsBut x := by
  unfold State.armBy
  split
  · exact h.modGroup_same g (fun _ _ => rfl) (fun _ => rfl)
  · exact h

theorem judgeSeeking (h : s.WindowsBut none) (hstate : (s.group g).state = .seeking) (p : Plan) (t : Tick) (v : Int) :
    (s.judgeSeeking g p t v).WindowsBut none := by
  unfold State.judgeSeeking
  split
  · have hopened := (h.exempt g).openWindow (h.noneOpen (by rw [hstate]; decide)) t
    refine (hopened.modGroup (f := fun x => { x with state := .tracking, arm := false }) (fun _ _ => rfl)).of_tracking ?_
    rw [group_modGroup_self]
  · exact h.armBy g p v

theorem judgeTracking (h : s.WindowsBut none) {d : Desc} (hd : s.stateOf ⟨g, d⟩ = .opened) (p : Plan) (t : Tick)
    (v : Int) : (s.judgeTracking g p d t v).WindowsBut none := by
  obtain ⟨-, e⟩ | ⟨-, -, -, e⟩ | ⟨-, -, -, e⟩ | ⟨-, -, e⟩ := s.judgeTracking_cases g p d t v <;> rw [e]
  · exact h.rejectWindow hd t
  · exact h.closeWindow hd t
  · exact h
  · exact h.armBy g p v

theorem takeReference (h : s.WindowsBut none) (g : Group) (t : Tick) (v : Int) : (s.takeReference g t v).WindowsBut none := by
  unfold State.takeReference
  dsimp only
  have hsought : (if (s.group g).state == .blind then s.modGroup g GroupCtx.enterSeeking else s).WindowsBut none := by
    split
    next hblind =>
      refine h.modGroup_closed ?_ (fun _ _ => rfl)
      rw [eq_of_beq hblind]
      decide
    next => exact h
  generalize (if (s.group g).state == .blind then s.modGroup g GroupCtx.enterSeeking else s) = r at hsought ⊢
  split
  · refine modGroup_same ?_ g (fun _ _ => rfl) (fun _ => rfl)
    split
    next hstate => exact hsought.judgeSeeking hstate _ t v
    next =>
      split
      next d hd => exact hsought.judgeTracking (GroupCtx.state_of_descIn hd) _ t v
      next => exact hsought.armBy g _ v
    all_goals exact hsought
  · exact hsought

end WindowsBut

/-! ## Samples -/

end State

/-- A placed or discarded sample changes no descriptor's state (R61). -/
theorem GroupCtx.state_place (x : GroupCtx) (c : Chan) (t : Tick) (v : Int) :
    (x.place c t v).state = x.state ∧ ∀ d : Desc, (x.place c t v).descs[d].state = x.descs[d].state := by
  unfold GroupCtx.place
  split
  · exact ⟨rfl, fun _ => rfl⟩
  · dsimp only
    split
    · exact ⟨rfl, fun _ => rfl⟩
    · split
      next e _ =>
        refine ⟨rfl, fun d => ?_⟩
        unfold GroupCtx.countOne
        dsimp only
        rw [GroupCtx.descs_setDesc]
        split
        next he => rw [he]
        next => rfl
      next => exact ⟨rfl, fun _ => rfl⟩

theorem GroupCtx.advance_eq (x : GroupCtx) (c : Chan) (t : Tick) :
    ∃ frontiers, x.advance c t = { x with frontiers := frontiers } := by
  unfold GroupCtx.advance
  split
  · exact ⟨_, rfl⟩
  · exact ⟨x.frontiers, rfl⟩

theorem GroupCtx.state_advance (x : GroupCtx) (c : Chan) (t : Tick) :
    (x.advance c t).state = x.state ∧ ∀ d : Desc, (x.advance c t).descs[d].state = x.descs[d].state := by
  obtain ⟨frontiers, h⟩ := x.advance_eq c t
  rw [h]
  exact ⟨rfl, fun _ => rfl⟩

namespace State

namespace WindowsBut

variable {s t : State} {x : Option Group} {g : Group}

theorem takeSample (h : s.WindowsBut none) (g : Group) (c : Chan) (t : Tick) (v : Int) :
    (s.takeSample g c t v).WindowsBut none := by
  unfold State.takeSample
  dsimp only
  split
  · exact h
  · refine (modGroup_same ?_ g (fun y d => ?_) (fun y => ?_)).judgeSettlement g
    · split
      · exact h.takeReference g t v
      · exact h
    · rw [((y.place c t v).state_advance c t).2, (y.state_place c t v).2]
    · rw [((y.place c t v).state_advance c t).1, (y.state_place c t v).1]

/-! ## Quiesce, resume and evaluation -/

theorem quiesce (h : s.WindowsBut none) (g : Group) : (s.quiesce g).WindowsBut none := by
  unfold State.quiesce
  dsimp only
  split
  · exact h
  · split
    next hoff =>
      refine h.modGroup_closed ?_ (fun _ _ => rfl)
      rw [eq_of_beq hoff]
      decide
    next =>
      exact ((((h.discardOpen g).settleNow g).exempt g).modGroup (f := fun x => { x with state := .quiescing })
        (fun _ _ => rfl)).of_noneOpen (noneOpen_modGroup (f := fun x => { x with state := .quiescing })
          (noneOpen_settleNow (noneOpen_discardOpen h) g) g (fun _ _ => rfl))

theorem resume (h : s.WindowsBut none) (g : Group) : (s.resume g).WindowsBut none := by
  unfold State.resume
  split
  next hq =>
    refine h.modGroup_closed ?_ (fun _ _ => by rw [GroupCtx.seekOrOff_descs])
    rw [eq_of_beq hq]
    decide
  next => exact h

/-- The engine's window is freed and the engine IDLE (R89). -/
theorem freeEngine (h : s.WindowsBut x) {w : WinRef} (hw : s.ana.engine.map Evaluation.win = some w) :
    ((s.freeDesc w).setAna { (s.freeDesc w).ana with engine := none }).WindowsBut x := by
  have hfree := s.stateOf_freeDesc w
  have heval : s.stateOf w = .evaluating := (h.engine w).mp hw
  refine h.move (y := .free) hfree (s.state_freeDesc w) (by decide) (by intro e; cases e) h.room h.nodup
    (fun v => ?_) (fun v => ?_)
  · refine (h.queued v).trans ?_
    refine Iff.trans ?_ (Eq.congr_left (hfree v)).symm
    split
    next e => exact iff_of_false (by rw [e, heval]; decide) (by decide)
    next => exact Iff.rfl
  · refine Iff.trans ?_ (Eq.congr_left (hfree v)).symm
    refine iff_of_false (by intro e; cases e) ?_
    split
    next => decide
    next e =>
      intro hv
      have := (h.engine v).mpr hv
      rw [hw] at this
      exact e (Option.some.inj this).symm

theorem release (h : s.WindowsBut none) {w : WinRef} (hw : s.ana.engine.map Evaluation.win = some w) :
    (s.release w).WindowsBut none :=
  (((h.freeEngine hw).of_ana (SameWithin.judgeHold _).ana).judgeQuiesced w.group).engineTake

end WindowsBut

theorem raiseAll_ana (s : State) (l : Raisings) : (s.raiseAll l).ana = s.ana := by
  unfold raiseAll
  refine foldl_keeps (P := fun t : State => t.ana = s.ana) (fun _ _ h => ?_) l s rfl
  exact h

theorem checkWindow_ana (s : State) (v : WindowView) (n : Half) (o : WinOutcome) : (s.checkWindow v n o).ana = s.ana := by
  have hlatch : ∀ t : State, (t.updateLatch v.group n).ana = t.ana := by
    intro t
    unfold updateLatch
    split
    · split <;> rfl
    all_goals rfl
  have hlimits : (s.stepLimits v n).ana = s.ana := by
    rw [stepLimits, raiseAll_ana]
    exact setLimitStates_ana _ _ _
  unfold checkWindow
  split
  · rw [hlatch, hlimits]
  · rfl

/-- A verdict given changes nothing of the windows and the engine. -/
theorem giveVerdict_ana (s : State) (v : WindowView) (d : Descriptor) (o : WinOutcome) :
    ∃ verdicts, (s.giveVerdict v d o).ana = { s.ana with lastVerdicts := verdicts } := by
  unfold giveVerdict offerVerdict
  dsimp only
  split
  · split
    · exact ⟨_, rfl⟩
    · exact ⟨s.ana.lastVerdicts, rfl⟩
  · exact ⟨s.ana.lastVerdicts, rfl⟩

theorem tellSnapshot_ana (s : State) (w : WinRef) (d : Descriptor) (o : WinOutcome) (a b : Bool) :
    (s.tellSnapshot w d o a b).ana = s.ana := by
  unfold tellSnapshot
  split
  · split <;> rfl
  · rfl
  · rfl

theorem WindowsBut.handOff {s : State} (h : s.WindowsBut none) {w : WinRef}
    (hw : s.ana.engine.map Evaluation.win = some w) : (s.handOff w).WindowsBut none := by
  unfold State.handOff
  dsimp only
  obtain ⟨verdicts, hv⟩ := (s.checkWindow (s.viewOf w) (s.group w.group).descs[w.desc].number
    ((s.viewOf w).outcome (s.group w.group).descs[w.desc] (s.group w.group).gen)).giveVerdict_ana (s.viewOf w)
      (s.group w.group).descs[w.desc] ((s.viewOf w).outcome (s.group w.group).descs[w.desc] (s.group w.group).gen)
  rw [checkWindow_ana] at hv
  have hverdict : (s.setAna { s.ana with lastVerdicts := verdicts }).WindowsBut none :=
    h.of_same (fun _ => rfl) rfl rfl (fun _ _ hk => hk)
  refine (hverdict.of_ana ((tellSnapshot_ana _ _ _ _ _ _).trans hv)).release ?_
  rw [tellSnapshot_ana, hv]
  exact hw

/-! ## Commits -/

namespace WindowsBut

variable {s t : State} {x : Option Group} {g : Group}

theorem switchSeekOrOff (h : s.WindowsBut (some g)) (hnone : s.noneOpen g) :
    ((s.switchGroup g).takeSeekOrOff g).WindowsBut none :=
  (h.switchGroup g).takeSeekOrOff.of_noneOpen
    (noneOpen_modGroup (noneOpen_switchGroup hnone g) g (fun _ _ => by rw [GroupCtx.seekOrOff_descs]))

theorem acceptSwitch (h : s.WindowsBut none) (g : Group) : (s.acceptSwitch g).WindowsBut none := by
  have hopen : (s.group g).state ≠ .tracking → ((s.switchGroup g).takeSeekOrOff g).WindowsBut none :=
    fun hne => (h.exempt g).switchSeekOrOff (h.noneOpen hne)
  unfold State.acceptSwitch
  split
  next e => exact hopen (by rw [e]; decide)
  next e => exact hopen (by rw [e]; decide)
  next e => exact hopen (by rw [e]; decide)
  · exact h.switchGroup g
  · exact h
  · exact h

theorem acceptCommit (h : s.WindowsBut none) : s.acceptCommit.WindowsBut none := by
  unfold State.acceptCommit
  dsimp only
  exact foldl_keeps (P := fun t : State => t.WindowsBut none) (fun _ g ht => ht.acceptSwitch g) all8 _ (h.of_ana rfl)

theorem forceSwitch (h : s.WindowsBut none) (g : Group) : (s.forceSwitch g).WindowsBut none := by
  unfold State.forceSwitch
  split
  · split
    · exact ((h.discardOpen g).exempt g).switchSeekOrOff (noneOpen_discardOpen h)
    · exact h.switchGroup g
  · exact h

theorem discardOld (h : s.WindowsBut none) (gen : Gen) (g : Group) : (State.discardOld gen s g).WindowsBut none := by
  unfold State.discardOld
  refine foldl_keeps (P := fun t : State => t.WindowsBut none) (fun t d ht => ?_) all3 s h
  dsimp only
  split
  next hc =>
    simp only [Bool.and_eq_true, Bool.or_eq_true, beq_iff_eq] at hc
    obtain ⟨-, hsettling | hqueued⟩ := hc
    · have hstate : t.stateOf ⟨g, d⟩ = .settling := hsettling
      have hnot : (⟨g, d⟩ : WinRef) ∉ (t.freeDesc ⟨g, d⟩).ana.queue := fun hm => by
        have := (ht.queued ⟨g, d⟩).mp hm
        rw [hstate] at this
        cases this
      rw [List.erase_of_not_mem hnot]
      exact of_ana (ht.freeDesc (by rw [hstate]; decide) (by rw [hstate]; decide)) rfl
    · exact ht.withdraw hqueued
  next => exact ht

theorem forceCommit (h : s.WindowsBut none) : s.forceCommit.WindowsBut none := by
  unfold State.forceCommit
  dsimp only
  have hforced : (all8.foldl State.forceSwitch s).WindowsBut none :=
    foldl_keeps (P := fun t : State => t.WindowsBut none) (fun _ g ht => ht.forceSwitch g) all8 s h
  have hdiscarded : (all8.foldl (State.discardOld s.mgmt.activeGen) (all8.foldl State.forceSwitch s)).WindowsBut none :=
    foldl_keeps (P := fun t : State => t.WindowsBut none) (fun _ g ht => ht.discardOld _ g) all8 _ hforced
  refine foldl_keeps (P := fun t : State => t.WindowsBut none) (fun _ g ht => ht.judgeQuiesced g) all8 _ ?_
  have hcounted : ∀ (t : State) (m : Management), t.WindowsBut none →
      ((t.raise .commitForced).setMgmt m).judgeHold.WindowsBut none :=
    fun t _ ht => ht.of_ana (SameWithin.judgeHold _).ana
  exact hcounted _ _ hdiscarded

/-- Nothing is open, settling, queued or evaluating. -/
theorem of_allFree (hfree : ∀ w : WinRef, s.stateOf w = .free) (hq : s.ana.queue = []) (he : s.ana.engine = none) :
    s.WindowsBut none where
  opened k d _ hd := by rw [hfree] at hd; cases hd
  settling k d _ hd := by rw [hfree] at hd; cases hd
  closed k d _ hd := by rw [hfree] at hd; cases hd
  room := by rw [hq]; exact Nat.zero_le _
  nodup := by rw [hq]; exact List.nodup_nil
  queued w := by rw [hq, hfree]; simp
  engine w := by rw [he, hfree]; simp

end WindowsBut

end State

/-- No descriptor of a reset group is in use. -/
theorem GroupCtx.reset_descs (st : GroupState) (gen : Gen) (d : Desc) : (GroupCtx.reset st gen).descs[d] = Descriptor.free :=
  Vector.getElem_replicate _

namespace State

theorem group_fullReset (pending : List Instr) (straps : BitVec 3) (mask : Option Nat) (cause : ResetCause) (g : Group) :
    (State.fullReset pending straps mask cause).group g = GroupCtx.reset .off 0 := Vector.getElem_replicate _

theorem group_restartBlocks (s : State) (g : Group) : s.restartBlocks.group g =
    GroupCtx.reset (if s.mgmt.active.plans[g].enabled then .seeking else .off) s.mgmt.activeGen :=
  getElem_vmap _ _ _ _

end State

/-- R65, R66 and R77 are an invariant of the analysis. -/
theorem windowsOk_invariant : AnalysisInvariant (fun s => s.WindowsBut none) where
  congr h same := h.of_ana same.ana
  full p a m c := .of_allFree
    (fun w => by rw [State.stateOf, State.group_fullReset, GroupCtx.reset_descs]; rfl) rfl rfl
  restart s _ := .of_allFree (fun w => by rw [State.stateOf, State.group_restartBlocks, GroupCtx.reset_descs]; rfl) rfl rfl
  tick s h := h.of_same (fun _ => rfl) rfl (by cases hs : s.ana.engine <;> simp [State.tickMgmt, State.tickEngine, Evaluation.tick, hs]) (fun _ _ hk => hk)
  sample s g c t v h := h.takeSample g c t v
  blind s g _ h := (h.exempt g).enterBlind
  handOff s e he h := h.handOff (by rw [he]; rfl)
  write s b _ h := h.of_ana rfl
  accept s _ h := h.acceptCommit
  force s _ h := h.forceCommit
  adopt s c _ _ h := h.of_ana rfl
  quiesce s g h := h.quiesce g
  quiesced s g h := h.judgeQuiesced g
  resume s g h := h.resume g

/-- Settles O58: the windows' invariant holds of every operation of the Window Engine, so of every step. -/
theorem stepKeepsWindowsSound : Obligations.StepKeepsWindowsSound := fun s t hs h =>
  t.windowsOk_iff.mpr (windowsOk_invariant.step (s.windowsOk_iff.mp hs) h)

end Sys2Proof.Machine
end

section
/-! What the operations on the windows keep when switches may happen in them, gone through once (`SwitchInvariant`), and
the Check Unit's invariant as a special case: commit control gives every group its generation, and every exceedance vector is
the one its entry states give. The Window Engine keeps the generations (`State.WindowStep.gens`). -/

namespace Sys2Proof.Machine

/-! ## Group sets and vectors -/

theorem GroupSet.has_set (x : GroupSet) (g h : Group) :
    GroupSet.has (GroupSet.set x g) h = (GroupSet.has x h || decide (g = h)) := by
  have hone : ∀ g h : Group, (1#8 <<< g.val).getLsbD h.val = decide (g = h) := by decide
  rw [GroupSet.has, GroupSet.set, BitVec.getLsbD_or, hone]
  rfl

theorem GroupSet.has_all (g : Group) : GroupSet.has 0xFF#8 g = true := by
  revert g
  decide

/-- A change of the states that moves no entry of the group into or out of a fault leaves its vector (R101). -/
theorem vectorOf_zipWith (g : Group) {f : LimitEntry → LimitState → LimitState}
    (hf : ∀ (e : LimitEntry) (st : LimitState), e.group = g → (f e st).holdsFault = st.holdsFault) :
    ∀ (es : List LimitEntry) (sts : List LimitState), vectorOf g es (List.zipWith f es sts) = vectorOf g es sts
  | [], _ => by simp [vectorOf]
  | _ :: _, [] => rfl
  | e :: es, st :: sts => by
    have ih := vectorOf_zipWith g hf es sts
    rw [List.zipWith_cons_cons, vectorOf, vectorOf, ih]
    by_cases he : e.group = g
    · rw [hf e st he]
    · simp [he]

/-- With no entry of the group in a fault, its vector is 0x0000 (R101). -/
theorem vectorOf_zipWith_zero (g : Group) {f : LimitEntry → LimitState → LimitState}
    (hf : ∀ (e : LimitEntry) (st : LimitState), e.group = g → (f e st).holdsFault = false) :
    ∀ (es : List LimitEntry) (sts : List LimitState), vectorOf g es (List.zipWith f es sts) = 0
  | [], _ => rfl
  | _ :: _, [] => rfl
  | e :: es, st :: sts => by
    have ih := vectorOf_zipWith_zero g hf es sts
    rw [List.zipWith_cons_cons, vectorOf, ih]
    by_cases he : e.group = g
    · simp [hf e st he]
    · simp [he]

theorem vectorOf_replicate_clear (g : Group) : ∀ (es : List LimitEntry) (n : Nat), vectorOf g es (List.replicate n .clear) = 0
  | [], _ => rfl
  | _ :: _, 0 => rfl
  | e :: es, n + 1 => by
    rw [List.replicate_succ, vectorOf, vectorOf_replicate_clear g es n]
    simp [LimitState.holdsFault]

namespace State

/-! ## What a group reads -/

/-- The vector of one group is the one its entries give (R101). -/
def VectorOk (s : State) (g : Group) : Prop :=
  s.vector g = vectorOf g (s.groupBank g).limits.toList (s.limitStates g).toList

/-- Two states agree on the Check Unit, the banks, the groups' generations and what commit control says of them. -/
structure SameChecks (t s : State) : Prop where
  chk : t.chk = s.chk
  active : t.mgmt.active = s.mgmt.active
  staging : t.mgmt.staging = s.mgmt.staging
  activeGen : t.mgmt.activeGen = s.mgmt.activeGen
  commit : t.mgmt.commit.map (fun c => (c.stagingGen, c.switched)) = s.mgmt.commit.map (fun c => (c.stagingGen, c.switched))
  gens : ∀ g : Group, (t.group g).gen = (s.group g).gen

theorem SameAnalysis.checks {s t : State} (h : t.SameAnalysis s) : t.SameChecks s :=
  ⟨h.chk, h.active, h.staging, h.activeGen, by rw [h.commit], fun g => by rw [State.group, h.ana]; rfl⟩

theorem WindowStep.checks {s t : State} (h : t.WindowStep s) : t.SameChecks s :=
  ⟨h.chk, by rw [h.mgmt], by rw [h.mgmt], by rw [h.mgmt], by rw [h.mgmt], h.gens⟩

/-- A generation is the staging one of a pending commit (R47). -/
theorem isStagingGen_eq (s : State) (gen : Gen) :
    s.isStagingGen gen = ((s.mgmt.commit.map (fun c => (c.stagingGen, c.switched))).any (fun p => gen == p.1)) := by
  unfold isStagingGen
  cases s.mgmt.commit <;> rfl

theorem readsStaging_iff (s : State) (g : Group) :
    s.readsStaging g = true ↔ ∃ c : Commit, s.mgmt.commit = some c ∧ (s.group g).gen = c.stagingGen := by
  unfold readsStaging isStagingGen
  cases s.mgmt.commit <;> simp

theorem groupBank_eq (s : State) (g : Group) :
    s.groupBank g = if s.readsStaging g then s.mgmt.staging else s.mgmt.active := rfl

namespace SameChecks

variable {s t : State} (h : t.SameChecks s)
include h

theorem readsStaging (g : Group) : t.readsStaging g = s.readsStaging g := by
  rw [State.readsStaging, State.readsStaging, isStagingGen_eq, isStagingGen_eq, h.commit, h.gens]

theorem groupBank (g : Group) : t.groupBank g = s.groupBank g := by
  rw [groupBank_eq, groupBank_eq, h.readsStaging, h.active, h.staging]

theorem limitStates (g : Group) : t.limitStates g = s.limitStates g := by
  rw [State.limitStates, State.limitStates, h.readsStaging, h.chk]

theorem vectorOk {g : Group} (hv : s.VectorOk g) : t.VectorOk g := by
  rw [VectorOk, State.vector, h.chk, h.groupBank, h.limitStates]
  exact hv

theorem commitOk (hc : s.commitOk) : t.commitOk := by
  obtain ⟨hstates, hgens⟩ := hc
  have hcommit := h.commit
  unfold State.commitOk
  cases hs : s.mgmt.commit with
  | none =>
    simp only [hs] at hstates hgens
    simp only [hs, Option.map_none, Option.map_eq_none_iff] at hcommit
    simp only [hcommit]
    exact ⟨by rw [h.chk]; exact hstates, fun g => by rw [h.gens, h.activeGen]; exact hgens g⟩
  | some c =>
    simp only [hs] at hstates hgens
    rw [hs, Option.map_some, Option.map_eq_some_iff] at hcommit
    obtain ⟨d, hd, e⟩ := hcommit
    obtain ⟨hstaging, hswitched⟩ := Prod.mk.inj e
    simp only [hd]
    refine ⟨by rw [h.chk]; exact hstates, by rw [hstaging, h.activeGen]; exact hgens.1, fun g => ?_⟩
    rw [h.gens, h.activeGen, hswitched, hstaging]
    exact hgens.2 g

end SameChecks

/-- What the operations on the windows, a switch among them, leave alone: the ports, the forward buffers, the sources, the
banks, the requests and the resets that are coming. -/
def outside (s : State) : State :=
  { s with
    pins := { s.pins with alert := false }
    ana := Analysis.reset
    chk := CheckUnit.reset
    latches := Vector.replicate 8 none
    disp := Dispatcher.reset
    rep := ReportQueue.reset
    mgmt := { s.mgmt with commit := none, hold := none }
    snap := SnapshotUnit.reset }

theorem WindowStep.outside {s t : State} (h : t.WindowStep s) : t.outside = s.outside := by
  simp only [State.outside, h.pending, h.pins, h.links, h.fwd, h.sources, h.mgmt]

theorem SameWithin.judgeHold_outside (s : State) : s.judgeHold.outside = s.outside := by
  unfold State.judgeHold
  split
  · split <;> rfl
  · rfl

/-- The state a commit is accepted in, before its groups switch (R104, R178). -/
def startCommit (s : State) : State :=
  let s1 := s.setMgmt { s.mgmt with commit := some ⟨s.mgmt.activeGen + 1, 0, some 0, s.settings.commitMs, 0⟩ }
  s1.setChk { s1.chk with staging := some (Vector.replicate 96 .clear) }

theorem acceptCommit_eq (s : State) : s.acceptCommit = all8.foldl acceptSwitch s.startCommit := rfl

end State

/-- A property kept by the Window Engine's operations, by a switch, and by what the Check Unit does for a window, and
indifferent to the latches, the events, the reports, the hold and the snapshot. -/
structure SwitchInvariant (P : State → Prop) : Prop where
  congr : ∀ {s t : State}, P s → t.SameChecks s → t.outside = s.outside → P t
  window : ∀ {s t : State}, P s → t.WindowStep s → P t
  switch : ∀ {s : State} (g : Group), P s → P (s.switchGroup g)
  clear : ∀ {s : State} (g : Group), P s → P (s.clearChecks g)
  stepLimits : ∀ {s : State} (v : WindowView) (number : Half), P s → P (s.stepLimits v number)
  start : ∀ {s : State}, s.mgmt.commit = none → P s → P s.startCommit

namespace SwitchInvariant

variable {P : State → Prop} (inv : SwitchInvariant P) {s : State}

include inv

theorem takeSeekOrOff (h : P s) (g : Group) : P (s.takeSeekOrOff g) := inv.window h (s.windowStep_takeSeekOrOff g)

theorem modGroup (h : P s) (g : Group) {f : GroupCtx → GroupCtx} (hf : ∀ y : GroupCtx, (f y).gen = y.gen) :
    P (s.modGroup g f) := inv.window h (s.windowStep_modGroup g (hf _))

theorem boundarySwitch (h : P s) (g : Group) : P (s.boundarySwitch g) := by
  unfold State.boundarySwitch
  split
  · dsimp only
    split
    · exact inv.switch g h
    · exact inv.modGroup (inv.window (inv.switch g h) (State.windowStep_settleNow _ g)) g (fun _ => rfl)
  · exact h

theorem boundary (h : P s) (g : Group) (t : Tick) : P (s.boundary g t) := by
  unfold State.boundary
  dsimp only
  have hswitched := inv.boundarySwitch (inv.modGroup h g (f := fun x => { x with arm := false }) (fun _ => rfl)) g
  split
  · exact inv.window hswitched (State.windowStep_openWindow _ g t)
  · exact hswitched

theorem enterBlind (h : P s) (g : Group) : P (s.enterBlind g) := by
  unfold State.enterBlind
  dsimp only
  have hblind : P (s.raise .groupBlind) := inv.window h (s.windowStep_raise _)
  have hdiscarded := inv.window (inv.modGroup hblind g (f := fun x => { x with state := .blind }) (fun _ => rfl))
    (State.windowStep_discardOpen _ g)
  have hended := inv.modGroup (inv.window hdiscarded (State.windowStep_settleNow _ g)) g
    (f := fun x => { x with arm := false }) (fun _ => rfl)
  split
  · exact inv.takeSeekOrOff (inv.switch g hended) g
  · exact hended

theorem enterQuiesced (h : P s) (g : Group) : P (s.enterQuiesced g) := by
  unfold State.enterQuiesced
  dsimp only
  have hcleared := inv.clear g (inv.modGroup h g (f := fun x =>
    { x with state := .quiesced, frontiers := Vector.replicate 8 none, lastRef := none, arm := false }) (fun _ => rfl))
  have hmarked : ∀ t : State, P t → P ((t.setLatch g none).offerMarker (.groupQuiesced g)) :=
    fun t ht => inv.congr ht ⟨rfl, rfl, rfl, rfl, rfl, fun _ => rfl⟩ rfl
  have hdone := hmarked _ hcleared
  split
  · exact inv.switch g hdone
  · exact hdone

theorem judgeQuiesced (h : P s) (g : Group) : P (s.judgeQuiesced g) := by
  unfold State.judgeQuiesced
  split
  · exact inv.enterQuiesced h g
  · exact h

theorem rejectWindow (h : P s) (g : Group) (d : Desc) (t : Tick) : P (s.rejectWindow g d t) := by
  unfold State.rejectWindow
  dsimp only
  have hcounted := inv.modGroup (inv.window (inv.window h (s.windowStep_freeDesc ⟨g, d⟩))
    (State.windowStep_raiseDetail _ .windowRejected (.windowRejected g (s.group g).descs[d].number))) g
      (f := fun x => { x with rejects := x.rejects + 1 }) (fun _ => rfl)
  split
  · exact inv.boundary hcounted g t
  · exact inv.enterBlind hcounted g

theorem closeWindow (h : P s) (g : Group) (d : Desc) (t : Tick) : P (s.closeWindow g d t) := by
  unfold State.closeWindow
  dsimp only
  have hsettled := inv.window h (s.windowStep_settleNow g)
  refine inv.window (inv.boundary ?_ g t) (State.windowStep_judgeSettlement _ g)
  split
  · exact inv.window hsettled (State.windowStep_freeDesc _ _)
  · exact inv.modGroup hsettled g (fun _ => rfl)

theorem judgeSeeking (h : P s) (g : Group) (p : Plan) (t : Tick) (v : Int) : P (s.judgeSeeking g p t v) := by
  unfold State.judgeSeeking
  split
  · exact inv.modGroup (inv.window h (s.windowStep_openWindow g t)) g (fun _ => rfl)
  · exact inv.window h (s.windowStep_armBy g p v)

theorem judgeTracking (h : P s) (g : Group) (p : Plan) (d : Desc) (t : Tick) (v : Int) :
    P (s.judgeTracking g p d t v) := by
  obtain ⟨-, e⟩ | ⟨-, -, -, e⟩ | ⟨-, -, -, e⟩ | ⟨-, -, e⟩ := s.judgeTracking_cases g p d t v <;> rw [e]
  · exact inv.rejectWindow h g d t
  · exact inv.closeWindow h g d t
  · exact h
  · exact inv.window h (s.windowStep_armBy g p v)

theorem takeReference (h : P s) (g : Group) (t : Tick) (v : Int) : P (s.takeReference g t v) := by
  unfold State.takeReference
  dsimp only
  have hsought : P (if (s.group g).state == .blind then s.modGroup g GroupCtx.enterSeeking else s) := by
    split
    · exact inv.modGroup h g (fun _ => rfl)
    · exact h
  generalize (if (s.group g).state == .blind then s.modGroup g GroupCtx.enterSeeking else s) = r at hsought ⊢
  split
  · refine inv.modGroup ?_ g (fun _ => rfl)
    split
    · exact inv.judgeSeeking hsought g _ t v
    · split
      · exact inv.judgeTracking hsought g _ _ t v
      · exact inv.window hsought (r.windowStep_armBy g _ v)
    all_goals exact hsought
  · exact hsought

theorem takeSample (h : P s) (g : Group) (c : Chan) (t : Tick) (v : Int) : P (s.takeSample g c t v) := by
  unfold State.takeSample
  dsimp only
  split
  · exact h
  · refine inv.window (inv.modGroup ?_ g (fun y => ?_)) (State.windowStep_judgeSettlement _ g)
    · split
      · exact inv.takeReference h g t v
      · exact h
    · rw [GroupCtx.advance_gen, GroupCtx.place_gen]

theorem quiesce (h : P s) (g : Group) : P (s.quiesce g) := by
  unfold State.quiesce
  dsimp only
  split
  · exact h
  · refine inv.modGroup (f := fun x => { x with state := .quiescing }) ?_ g (fun _ => rfl)
    split
    · exact h
    · exact inv.window (inv.window h (s.windowStep_discardOpen g)) (State.windowStep_settleNow _ g)

theorem resume (h : P s) (g : Group) : P (s.resume g) := by
  unfold State.resume
  split
  · exact inv.takeSeekOrOff h g
  · exact h

/-! The end of an evaluation -/

theorem checkWindow (h : P s) (v : WindowView) (n : Half) (o : WinOutcome) : P (s.checkWindow v n o) := by
  have hlatch : ∀ t : State, P t → P (t.updateLatch v.group n) := by
    intro t ht
    have hset : ∀ (d : Option Diagnosis) (k : DetailKind) (e : Detail), P ((t.setLatch v.group d).raiseDetail k e) :=
      fun _ _ _ => inv.congr ht ⟨rfl, rfl, rfl, rfl, rfl, fun _ => rfl⟩ rfl
    unfold State.updateLatch
    split
    · split
      · exact ht
      · exact hset _ _ _
    · exact hset _ _ _
    · exact hset _ _ _
    · exact ht
  unfold State.checkWindow
  split
  · exact hlatch _ (inv.stepLimits v n h)
  · exact h

theorem giveVerdict (h : P s) (v : WindowView) (d : Descriptor) (o : WinOutcome) : P (s.giveVerdict v d o) := by
  unfold State.giveVerdict State.offerVerdict
  dsimp only
  split
  · split <;> exact inv.congr h ⟨rfl, rfl, rfl, rfl, rfl, fun _ => rfl⟩ rfl
  · exact h

theorem tellSnapshot (h : P s) (w : WinRef) (d : Descriptor) (o : WinOutcome) (a b : Bool) :
    P (s.tellSnapshot w d o a b) := by
  unfold State.tellSnapshot
  split
  · split
    · exact inv.congr h ⟨rfl, rfl, rfl, rfl, rfl, fun _ => rfl⟩ rfl
    · exact h
  all_goals exact h

theorem judgeHold (h : P s) : P s.judgeHold :=
  inv.congr h (State.SameWithin.judgeHold s).checks (State.SameWithin.judgeHold_outside s)

theorem release (h : P s) (w : WinRef) : P (s.release w) := by
  unfold State.release
  dsimp only
  have hidle : P ((s.freeDesc w).setAna { (s.freeDesc w).ana with engine := none }) :=
    inv.window (inv.window h (s.windowStep_freeDesc w)) (State.windowStep_setAna _ _ _)
  exact inv.window (inv.judgeQuiesced (inv.judgeHold hidle) w.group) (State.windowStep_engineTake _)

theorem handOff (h : P s) (w : WinRef) : P (s.handOff w) :=
  inv.release (inv.tellSnapshot (inv.giveVerdict (inv.checkWindow h _ _ _) _ _ _) _ _ _ _ _) w

/-! Commits -/

theorem acceptSwitch (h : P s) (g : Group) : P (s.acceptSwitch g) := by
  unfold State.acceptSwitch
  split
  · exact inv.takeSeekOrOff (inv.switch g h) g
  · exact inv.takeSeekOrOff (inv.switch g h) g
  · exact inv.takeSeekOrOff (inv.switch g h) g
  · exact inv.switch g h
  all_goals exact h

theorem acceptCommit (h : P s) (hidle : s.mgmt.commit = none) : P s.acceptCommit := by
  rw [State.acceptCommit_eq]
  exact foldl_keeps (P := P) (fun _ g ht => inv.acceptSwitch ht g) all8 s.startCommit (inv.start hidle h)

theorem forceSwitch (h : P s) (g : Group) : P (s.forceSwitch g) := by
  unfold State.forceSwitch
  split
  · split
    · exact inv.takeSeekOrOff (inv.switch g (inv.window h (s.windowStep_discardOpen g))) g
    · exact inv.switch g h
  · exact h

theorem discardOld (h : P s) (gen : Gen) (g : Group) : P (State.discardOld gen s g) := by
  unfold State.discardOld
  refine foldl_keeps (P := P) (fun t d ht => ?_) all3 s h
  dsimp only
  split
  · exact inv.window (inv.window ht (t.windowStep_freeDesc ⟨g, d⟩)) (State.windowStep_setAna _ _ _)
  · exact ht

theorem forceCommit (h : P s) : P s.forceCommit := by
  unfold State.forceCommit
  dsimp only
  have hforced : P (all8.foldl State.forceSwitch s) :=
    foldl_keeps (P := P) (fun _ g ht => inv.forceSwitch ht g) all8 s h
  have hdiscarded : P (all8.foldl (State.discardOld s.mgmt.activeGen) (all8.foldl State.forceSwitch s)) :=
    foldl_keeps (P := P) (fun _ g ht => inv.discardOld ht _ g) all8 _ hforced
  refine foldl_keeps (P := P) (fun _ g ht => inv.judgeQuiesced ht g) all8 _ ?_
  have hcounted : ∀ (t : State) (n : Nat), P t → P ((t.raise .commitForced).setMgmt { (t.raise .commitForced).mgmt with
      commit := (t.raise .commitForced).mgmt.commit.map (fun c => { c with forced := n, timer := none }) }) :=
    fun t n ht => inv.congr ht ⟨rfl, rfl, rfl, rfl, Option.map_map _ _ _, fun _ => rfl⟩ rfl
  exact inv.judgeHold (hcounted _ _ hdiscarded)

end SwitchInvariant

/-! ## The Check Unit's invariant -/

namespace State

theorem ChecksOk.congr {s t : State} (h : s.ChecksOk) (same : t.SameChecks s) : t.ChecksOk :=
  ⟨same.commitOk h.commit, fun g => same.vectorOk (h.vectors g)⟩

theorem ChecksOk.window {s t : State} (h : s.ChecksOk) (hstep : t.WindowStep s) : t.ChecksOk := h.congr hstep.checks

/-! ## Entry states replaced -/

/-- A group that reads the Staging bank reads a staging set of states (R94). -/
theorem commitOk.staging {s : State} (h : s.commitOk) {g : Group} (hg : s.readsStaging g = true) :
    s.chk.staging.isSome = true := by
  obtain ⟨c, hc, -⟩ := (s.readsStaging_iff g).mp hg
  rw [h.1, hc]
  rfl

theorem setLimitStates_eq (s : State) (g : Group) (x : Vector LimitState 96) : s.setLimitStates g x =
    s.setChk { s.chk with
      staging := if s.readsStaging g then some x else s.chk.staging
      active := if s.readsStaging g then s.chk.active else x } := by
  unfold setLimitStates
  split <;> rfl

/-- A replaced set of states is read by every group that reads the same bank (R94). -/
theorem limitStates_setLimitStates (s : State) (hset : ∀ k : Group, s.readsStaging k = true → s.chk.staging.isSome = true)
    (g k : Group) (x : Vector LimitState 96) :
    (s.setLimitStates g x).limitStates k = if s.readsStaging k = s.readsStaging g then x else s.limitStates k := by
  rw [setLimitStates_eq]
  have hreads : ∀ y : CheckUnit, (s.setChk y).readsStaging k = s.readsStaging k := fun _ => rfl
  simp only [limitStates, hreads, setChk_chk]
  cases hk : s.readsStaging k <;> cases hg : s.readsStaging g <;> simp
  obtain ⟨y, hy⟩ := Option.isSome_iff_exists.mp (hset k hk)
  simp [hy]

/-- The states of a group's set replaced and its vector with them: every vector is in step when the other groups' were,
and their entries hold the faults they held. -/
theorem vectorsOk_replace {s : State} {g : Group} {x : Vector LimitState 96} {v : Half}
    (hset : ∀ k : Group, s.readsStaging k = true → s.chk.staging.isSome = true)
    (hself : v = vectorOf g (s.groupBank g).limits.toList x.toList)
    (hothers : ∀ k : Group, k ≠ g → s.VectorOk k ∧
      (vectorOf k (s.groupBank g).limits.toList x.toList =
        vectorOf k (s.groupBank g).limits.toList (s.limitStates g).toList)) :
    ((s.setLimitStates g x).setVector g v).vectorsOk := by
  intro k
  have hbank : ((s.setLimitStates g x).setVector g v).groupBank k = s.groupBank k := by rw [setLimitStates_eq]; rfl
  have hstates : ((s.setLimitStates g x).setVector g v).limitStates k = (s.setLimitStates g x).limitStates k := rfl
  have hvector : ((s.setLimitStates g x).setVector g v).vector k = if k = g then v else s.vector k := by
    rw [setLimitStates_eq]
    have : (g.val = k.val) ↔ k = g := ⟨fun h => Fin.ext h.symm, fun h => by rw [h]⟩
    simp [vector, setVector, Vector.getElem_set, this]
  rw [hbank, hstates, hvector, limitStates_setLimitStates s hset]
  split
  next e => rw [e, if_pos rfl]; exact hself
  next hne =>
    obtain ⟨hk, hsame⟩ := hothers k hne
    split
    next hreads =>
      have hk' : s.groupBank k = s.groupBank g ∧ s.limitStates k = s.limitStates g := by
        simp only [groupBank_eq, limitStates, hreads, and_self]
      rw [hk'.1, hsame, ← hk'.1, ← hk'.2]
      exact hk
    next => exact hk

theorem commitOk_setLimitStates {s : State} (h : s.commitOk) (g : Group) (x : Vector LimitState 96) (v : Half) :
    ((s.setLimitStates g x).setVector g v).commitOk := by
  rw [setLimitStates_eq]
  refine ⟨?_, h.2⟩
  show (if s.readsStaging g then some x else s.chk.staging).isSome = s.mgmt.commit.isSome
  split
  next hr => rw [← h.1, h.staging hr]; rfl
  next => exact h.1

/-- The entries of a group cleared and its vector 0x0000 (R105, R107). -/
theorem ChecksOk.clear {s : State} (hc : s.commitOk) {g : Group} (hv : ∀ k : Group, k ≠ g → s.VectorOk k) :
    (s.clearChecks g).ChecksOk := by
  refine ⟨commitOk_setLimitStates hc g _ 0, vectorsOk_replace (fun _ => hc.staging) ?_ (fun k hk => ⟨hv k hk, ?_⟩)⟩
  · exact (vectorOf_zipWith_zero g (fun e st he => by simp [he, LimitState.holdsFault]) _ _).symm
  · exact vectorOf_zipWith k (fun e st he => by
      have : e.group ≠ g := he ▸ hk
      simp [this]) _ _

theorem ChecksOk.stepLimits {s : State} (h : s.ChecksOk) (v : WindowView) (number : Half) :
    (s.stepLimits v number).ChecksOk := by
  have hstepped : ((s.setLimitStates v.group
      (steppedStates v (s.groupBank v.group).limits (s.limitStates v.group))).refreshVector v.group).ChecksOk := by
    refine ⟨commitOk_setLimitStates h.commit _ _ _, vectorsOk_replace (fun _ => h.commit.staging) ?_
      (fun k hk => ⟨h.vectors k, ?_⟩)⟩
    · rw [limitStates_setLimitStates s (fun _ => h.commit.staging), if_pos rfl, setLimitStates_eq]
      rfl
    · refine vectorOf_zipWith k (fun e st he => ?_) _ _
      have : e.group ≠ v.group := he ▸ hk
      simp [LimitEntry.stepped, this]
  unfold State.stepLimits State.raiseAll
  refine foldl_keeps (P := State.ChecksOk) (fun t r ht => ?_) _ _ hstepped
  exact ht.window (windowStep_raiseDetail _ _ _)

/-! ## Switches -/

theorem ChecksOk.switchGroup {s : State} (h : s.ChecksOk) (g : Group) : (s.switchGroup g).ChecksOk := by
  cases hc : s.mgmt.commit with
  | none => rw [switchGroup_idle hc]; exact h
  | some c =>
    have hgens := h.commit.2
    rw [hc] at hgens
    obtain ⟨hnext, hgens⟩ := hgens
    have hset := fun k => h.commit.staging (g := k)
    unfold State.switchGroup
    rw [hc]
    dsimp only
    generalize hr : ((s.modGroup g fun x => { x with gen := c.stagingGen, rejects := 0 }).setMgmt
      { (s.modGroup g fun x => { x with gen := c.stagingGen, rejects := 0 }).mgmt with
        commit := some { c with switched := GroupSet.set c.switched g } }) = r
    have hgroup : ∀ k : Group, (r.group k).gen = if k = g then c.stagingGen else (s.group k).gen := fun k => by
      rw [← hr]
      refine (congrArg GroupCtx.gen (s.group_modGroup g k (fun x => { x with gen := c.stagingGen, rejects := 0 }))).trans ?_
      split <;> rfl
    have hcommit : r.mgmt.commit = some { c with switched := GroupSet.set c.switched g } := by rw [← hr]; rfl
    have hactive : r.mgmt.activeGen = s.mgmt.activeGen := by rw [← hr]; rfl
    have hbanks : r.mgmt.staging = s.mgmt.staging ∧ r.mgmt.active = s.mgmt.active := by rw [← hr]; exact ⟨rfl, rfl⟩
    have hchk : r.chk = s.chk := by rw [← hr]; rfl
    have hok : r.commitOk := by
      unfold State.commitOk
      rw [hcommit, hchk, hactive]
      refine ⟨by rw [h.commit.1, hc]; rfl, hnext, fun k => ?_⟩
      rw [hgroup, GroupSet.has_set]
      by_cases hk : k = g
      · simp [hk]
      · simp [hk, Ne.symm hk, hgens k]
    have hothers : ∀ k : Group, k ≠ g → r.VectorOk k := fun k hk => by
      have hreads : r.readsStaging k = s.readsStaging k := by
        rw [readsStaging, readsStaging, isStagingGen_eq, isStagingGen_eq, hcommit, hc, hgroup, if_neg hk]
        rfl
      have := h.vectors k
      rw [VectorOk, vector, groupBank_eq, limitStates, hreads, hchk, hbanks.1, hbanks.2]
      exact this
    have hcleared : (r.clearChecks g).ChecksOk := .clear hok hothers
    have hlatch : ∀ (t : State) (last : Vector (Option (Half × Byte)) 8),
        ((t.setLatch g none).setAna { (t.setLatch g none).ana with lastVerdicts := last }).SameChecks t :=
      fun t last => ⟨rfl, rfl, rfl, rfl, rfl, fun _ => rfl⟩
    exact (hcleared.congr (hlatch _ _)).congr (SameControl.abortSnapshot _ g).checks

namespace ChecksOk

variable {s : State}

/-- A commit starts with no group switched, so each group still reads what it read (R178). -/
theorem startCommit (h : s.ChecksOk) (hidle : s.mgmt.commit = none) : s.startCommit.ChecksOk := by
  unfold State.startCommit
  dsimp only
  have hgens := h.commit.2
  rw [hidle] at hgens
  generalize hr : State.setChk _ _ = r
  have hcommit : r.mgmt.commit = some ⟨s.mgmt.activeGen + 1, 0, some 0, s.settings.commitMs, 0⟩ := by rw [← hr]; rfl
  have hgroup : ∀ k : Group, (r.group k).gen = s.mgmt.activeGen := fun k => by rw [← hr]; exact hgens k
  have hnone : ∀ k : Group, r.readsStaging k = false := fun k => by
    rw [readsStaging, isStagingGen, hcommit, hgroup]
    have : ∀ x : BitVec 16, (x == x + 1) = false := fun x => beq_false_of_ne (by bv_omega)
    exact this _
  have hbefore : ∀ k : Group, s.readsStaging k = false := fun k => by simp [readsStaging, isStagingGen, hidle]
  refine ⟨⟨by rw [hcommit, ← hr]; rfl, ?_⟩, fun k => ?_⟩
  · rw [hcommit]
    refine ⟨by rw [← hr]; rfl, fun k => ?_⟩
    have hclear : GroupSet.has 0 k = false := BitVec.getLsbD_zero
    rw [hgroup, hclear, ← hr]
    rfl
  · have := h.vectors k
    rw [groupBank_eq, limitStates, hbefore] at this
    rw [vector, groupBank_eq, limitStates, hnone, ← hr]
    exact this

/-- A commit completes with every group switched, so each group reads what it read (R176, R177). -/
theorem adoptStaging (h : s.ChecksOk) {c : Commit} (hc : s.mgmt.commit = some c) (hready : s.commitReady = true) :
    (s.adoptStaging c).ChecksOk := by
  have hgens := h.commit.2
  rw [hc] at hgens
  obtain ⟨-, hgens⟩ := hgens
  have hall : c.switched = 0xFF#8 := by
    simp only [commitReady, hc, Bool.and_eq_true, beq_iff_eq] at hready
    exact hready.1
  rw [hall] at hgens
  have hgen : ∀ g : Group, (s.group g).gen = c.stagingGen := fun g => (hgens g).trans (if_pos (GroupSet.has_all g))
  have hreads : ∀ g : Group, s.readsStaging g = true := fun g => (s.readsStaging_iff g).mpr ⟨c, hc, hgen g⟩
  refine ⟨⟨rfl, hgen⟩, fun g => ?_⟩
  have := h.vectors g
  rw [groupBank_eq, limitStates, hreads] at this
  exact this

/-- Every group has the active generation and every entry is CLEAR. -/
theorem of_clear {gen : Gen} (hcommit : s.mgmt.commit = none) (hgen : s.mgmt.activeGen = gen)
    (hgens : ∀ g : Group, (s.group g).gen = gen)
    (hchk : s.chk = ⟨Vector.replicate 96 .clear, none, Vector.replicate 8 0⟩) : s.ChecksOk := by
  refine ⟨?_, fun g => ?_⟩
  · unfold State.commitOk
    rw [hcommit, hchk, hgen]
    exact ⟨rfl, hgens⟩
  · have hstates : s.limitStates g = Vector.replicate 96 .clear := by
      unfold State.limitStates
      rw [hchk]
      split <;> rfl
    rw [vector, hstates, hchk, Vector.toList_replicate, vectorOf_replicate_clear]
    exact Vector.getElem_replicate _

end ChecksOk
end State

/-- R47, R94, R101, R178 and R179 are kept by the operations on the windows. -/
theorem checksOk_switchInvariant : SwitchInvariant State.ChecksOk where
  congr h same _ := h.congr same
  window h hstep := h.window hstep
  switch g h := h.switchGroup g
  clear _ h := .clear h.commit (fun k _ => h.vectors k)
  stepLimits v number h := h.stepLimits v number
  start hidle h := h.startCommit hidle

/-- R47, R94, R101, R178 and R179 are an invariant of the analysis. -/
theorem checksOk_invariant : AnalysisInvariant State.ChecksOk where
  congr h same := h.congr same.checks
  full p a m c := .of_clear rfl rfl (fun g => by rw [State.group_fullReset]; rfl) rfl
  restart s h := .of_clear h rfl (fun g => by rw [State.group_restartBlocks]; rfl) rfl
  tick s h := h.congr ⟨rfl, rfl, rfl, rfl, by cases hc : s.mgmt.commit <;> simp [State.tickMgmt, State.tickEngine, hc, Commit.tick], fun _ => rfl⟩
  sample s g c t v h := checksOk_switchInvariant.takeSample h g c t v
  blind s g _ h := checksOk_switchInvariant.enterBlind h g
  handOff s e _ h := checksOk_switchInvariant.handOff h e.win
  write s b hc h := by
    have hnone : ∀ g : Group, s.readsStaging g = false := fun g => by simp [State.readsStaging, State.isStagingGen, hc]
    refine ⟨h.commit, fun g => ?_⟩
    have := h.vectors g
    rw [State.groupBank_eq, State.limitStates, hnone] at this
    have hafter : (s.setMgmt { s.mgmt with staging := b }).readsStaging g = false := hnone g
    rw [State.groupBank_eq, State.limitStates, hafter]
    exact this
  accept s hc h := checksOk_switchInvariant.acceptCommit h hc
  force s _ h := checksOk_switchInvariant.forceCommit h
  adopt s c hc hready h := h.adoptStaging hc hready
  quiesce s g h := checksOk_switchInvariant.quiesce h g
  quiesced s g h := checksOk_switchInvariant.judgeQuiesced h g
  resume s g h := checksOk_switchInvariant.resume h g

/-- Settles O59: generations, state sets and vectors are an invariant of the analysis, so every step keeps them. -/
theorem stepKeepsChecksSound : Obligations.StepKeepsChecksSound := fun _ _ hs h => checksOk_invariant.step hs h

end Sys2Proof.Machine
end

section
/-! What the operations on the windows leave alone although switches may happen in them (`State.outside`), and from it:
no step leaves anything unjudged. -/

namespace Sys2Proof.Machine

namespace State

/-! ## What lies outside the windows -/

theorem outside_abortSnapshot (s : State) (g : Group) : (s.abortSnapshot g).outside = s.outside := by
  unfold abortSnapshot
  split
  · split <;> rfl
  · rfl
  · rfl

theorem outside_clearChecks (s : State) (g : Group) : (s.clearChecks g).outside = s.outside := by
  rw [clearChecks, setLimitStates_eq]
  rfl

theorem outside_switchGroup (s : State) (g : Group) : (s.switchGroup g).outside = s.outside := by
  unfold switchGroup
  split
  · rfl
  · dsimp only
    rw [outside_abortSnapshot]
    have hlatch : ∀ (t : State) (last : Vector (Option (Half × Byte)) 8),
        ((t.setLatch g none).setAna { (t.setLatch g none).ana with lastVerdicts := last }).outside = t.outside :=
      fun _ _ => rfl
    exact (hlatch _ _).trans ((outside_clearChecks _ g).trans rfl)

theorem outside_raiseAll (s : State) (l : Raisings) : (s.raiseAll l).outside = s.outside := by
  unfold raiseAll
  refine foldl_keeps (P := fun t : State => t.outside = s.outside) (fun t r ht => ?_) l s rfl
  exact (windowStep_raiseDetail t r.1 r.2).outside.trans ht

theorem outside_stepLimits (s : State) (v : WindowView) (number : Half) : (s.stepLimits v number).outside = s.outside := by
  rw [stepLimits, outside_raiseAll, setLimitStates_eq]
  rfl

end State

/-- The operations on the windows keep what lies outside them. -/
theorem outside_switchInvariant (x : State) : SwitchInvariant (fun t => t.outside = x) where
  congr h _ same := same.trans h
  window h hstep := hstep.outside.trans h
  switch g h := (State.outside_switchGroup _ g).trans h
  clear g h := (State.outside_clearChecks _ g).trans h
  stepLimits v number h := (State.outside_stepLimits _ v number).trans h
  start _ h := h

namespace State

variable {s t : State}

theorem links_of_outside (h : t.outside = s.outside) : t.links = s.links := (congrArg State.links h :)
theorem restartMark_of_outside (h : t.outside = s.outside) : t.mgmt.restartMark = s.mgmt.restartMark :=
  (congrArg (fun x : State => x.mgmt.restartMark) h :)

/-! ## What is in flight -/

theorem any_groups (s : State) (f : GroupCtx → Bool) : s.ana.groups.toList.any f = true ↔ ∃ g : Group, f (s.group g) = true := by
  rw [List.any_eq_true]
  constructor
  · rintro ⟨x, hx, hf⟩
    obtain ⟨i, hi, rfl⟩ := List.getElem_of_mem hx
    refine ⟨⟨i, by simpa using hi⟩, ?_⟩
    simpa [group] using hf
  · rintro ⟨g, hf⟩
    exact ⟨s.group g, by simp [group], hf⟩

/-- Nothing is in flight or settling in one state more than in the other when the descriptors agree. -/
theorem judged_of_descs (hd : ∀ g : Group, (t.group g).descs = (s.group g).descs) (hm : t.mgmt = s.mgmt) :
    t.commitReady = s.commitReady ∧ t.anyInFlight = s.anyInFlight := by
  have htag : ∀ gen : Gen, t.tagLive gen = s.tagLive gen := fun gen => by
    rw [Bool.eq_iff_iff, tagLive, tagLive, any_groups, any_groups]
    simp only [hd]
  constructor
  · simp only [commitReady, htag, hm]
  · rw [Bool.eq_iff_iff, anyInFlight, anyInFlight, any_groups, any_groups]
    simp only [GroupCtx.inFlight, GroupCtx.descIn, hd]

/-! ## Nothing is left unjudged -/

/-- Of an accepted mark's reset and a propagating restart at most one is awaited. -/
def OneReset (s : State) : Prop := s.links.markReset = none ∨ s.mgmt.restartMark = false

theorem OneReset.of_outside (h : s.OneReset) (same : t.outside = s.outside) : t.OneReset := by
  rw [OneReset, links_of_outside same, restartMark_of_outside same]
  exact h

/-- With one reset awaited, what an event closes with leaves everything judged. -/
theorem settled_iff : s.Settled ↔ s.Judged ∧ s.OneReset := by
  constructor
  · intro h
    exact ⟨⟨h.commit, h.hold, h.mark, fun _ => h.restart⟩, h.single⟩
  · rintro ⟨⟨hcommit, hhold, hmark, hrestart⟩, hone⟩
    refine ⟨hcommit, hhold, hmark, fun hr => ?_, hone⟩
    obtain hnone | hfalse := hone
    · exact hrestart hnone hr
    · rw [hfalse] at hr
      cases hr

/-- With no commit pending, no hold and no reset coming there is nothing to judge. -/
theorem Settled.of_idle (hcommit : s.mgmt.commit = none) (hhold : s.mgmt.hold = none) (hmark : s.links.markReset = none)
    (hrestart : s.mgmt.restartMark = false) : s.Settled where
  commit := commitReady_of_idle hcommit
  hold h hh := by rw [hhold] at hh; cases hh
  mark m hm := by rw [hmark] at hm; cases hm
  restart hr := by rw [hrestart] at hr; cases hr
  single := .inl hmark

theorem Settled.of_control (h : s.Settled) (same : t.SameControl s) : t.Settled where
  commit := same.commitReady.trans h.commit
  hold x hx he := same.anyInFlight.trans (h.hold x (same.hold ▸ hx) he)
  mark m hm := same.ups _ (h.mark m (same.markReset ▸ hm))
  restart hr := same.ups _ (h.restart (same.restartMark ▸ hr))
  single := by rw [same.markReset, same.restartMark]; exact h.single

/-- A change that keeps the windows' descriptors, the requests in hand and the ports. -/
theorem Settled.of_descs (h : s.Settled) (hd : ∀ g : Group, (t.group g).descs = (s.group g).descs) (hm : t.mgmt = s.mgmt)
    (hl : t.links = s.links) : t.Settled where
  commit := (judged_of_descs hd hm).1.trans h.commit
  hold x hx he := (judged_of_descs hd hm).2.trans (h.hold x (hm ▸ hx) he)
  mark m hk := by
    have := h.mark m (hl ▸ hk)
    cases hp : m.arrival.other <;> simpa only [isUp, port, hl, hp] using this
  restart hr := by
    have := h.restart (hm ▸ hr)
    simpa only [isUp, port, hl] using this
  single := by rw [hl, hm]; exact h.single

theorem Settled.tick (h : s.Settled) : s.tickEngine.tickMgmt.Settled where
  commit := by
    have := h.commit
    unfold commitReady at this ⊢
    cases hc : s.mgmt.commit <;> rw [hc] at this <;> simp only [tickMgmt, tickEngine, setAna_mgmt, setMgmt_mgmt, hc] <;> exact this
  hold x hx he := by
    obtain ⟨y, hy, rfl⟩ := Option.map_eq_some_iff.mp hx
    exact h.hold y hy he
  mark := h.mark
  restart := h.restart
  single := h.single

theorem Settled.resume (h : s.Settled) (g : Group) : (s.resume g).Settled := by
  unfold State.resume
  split
  · refine h.of_descs (fun k => ?_) rfl rfl
    rw [takeSeekOrOff, group_modGroup]
    split
    next e => rw [GroupCtx.seekOrOff_descs, e]
    next => rfl
  · exact h

end State

/-- Every event leaves everything judged. -/
theorem settled_stepInvariant : StepInvariant State.OneReset State.Settled where
  mid h := h.single
  within h same := by rw [State.OneReset, same.markReset, same.restartMark]; exact h
  congr h same := h.of_control same
  judged h hj := State.settled_iff.mpr ⟨hj, h⟩
  full _ _ _ _ := .of_idle rfl rfl rfl rfl
  restart s h := .of_idle h rfl rfl rfl
  tick s h := h.tick
  sample s g c t v h := h.of_outside ((outside_switchInvariant s.outside).takeSample rfl g c t v)
  blind s g _ h := h.of_outside ((outside_switchInvariant s.outside).enterBlind rfl g)
  handOff s e _ h := h.of_outside ((outside_switchInvariant s.outside).handOff rfl e.win)
  write s b hc h := ⟨State.commitReady_of_idle hc, h.hold, h.mark, h.restart, h.single⟩
  accept s hc h := h.of_outside ((outside_switchInvariant s.outside).acceptCommit rfl hc)
  force s _ h := h.of_outside ((outside_switchInvariant s.outside).forceCommit rfl)
  adopt s c _ _ h := h
  quiesce s g h := h.of_outside ((outside_switchInvariant s.outside).quiesce rfl g)
  quiesced s g h := h.of_outside ((outside_switchInvariant s.outside).judgeQuiesced rfl g)
  resume s g h := h.resume g
  endHold s x c h := ⟨h.commit, fun y hy => (by cases hy), h.mark, h.restart, h.single⟩
  held s straps c h := ⟨h.commit, h.hold, fun m hm => (by cases hm), fun hr => (by cases hr), .inr rfl⟩
  pass s m hcoming hup h := by
    simp only [State.resetComing, Bool.or_eq_false_iff] at hcoming
    refine ⟨h.commit, h.hold, fun n hn => ?_, h.restart, .inr hcoming.2⟩
    rw [← Option.some.inj hn]
    exact hup
  propagate s hmark hup h := ⟨h.commit, h.hold, h.mark, fun _ => hup, .inl hmark⟩

/-- Settles O60: of the resets at most one is awaited throughout an event, and the judgements it closes with do the
rest. -/
theorem stepLeavesNothingUnjudged : Obligations.StepLeavesNothingUnjudged := fun _ _ hs h => settled_stepInvariant.step hs h

/-- Settles O56: the state after reset is one a full reset leaves, and each invariant holds of those. -/
theorem resetMeetsInvariants : Obligations.ResetMeetsInvariants :=
  ⟨State.fullReset_sound _ _ _ _, (State.windowsOk_iff _).mpr (windowsOk_invariant.full _ _ _ _),
    checksOk_invariant.full _ _ _ _, settled_stepInvariant.full _ _ _ _⟩

end Sys2Proof.Machine
end

section
/-! The ports: RESET_N, bring-up, the timers of bring-up and bad checks (chapter 1). -/

namespace Sys2Proof.Machine

/-- Settles O4: each pin command is its rule; only a held part takes the full reset. -/
theorem resetPinHoldsAndResets : Obligations.ResetPinHoldsAndResets := by
  intro s
  refine ⟨fun _ => rfl, rfl, fun hfree => ?_, fun cause hheld hnone => ?_⟩
  · rw [exec_eq_next, State.after, State.resetHigh, hfree]
  · rw [exec_eq_next, State.after, State.resetHigh, hheld]
    dsimp only
    rw [State.takeFullReset, hnone]
    rfl

namespace State

/-! ## A part held in reset (R12, log 5) -/

theorem isHeld_iff (s : State) : s.isHeld = true ↔ s.pins.held ≠ none := by
  rw [isHeld, Option.isSome_iff_ne_none]

theorem isHeld_eq_false_iff (s : State) : s.isHeld = false ↔ s.pins.held = none := by
  rw [isHeld, Option.isSome_eq_false_iff, Option.isNone_iff_eq_none]

section
variable {s : State} (h : s.isHeld = true)
include h

theorem linkControl_held (p : Port) (body : List Byte) : s.linkControl p body = s := by simp [linkControl, h]

theorem badCheck_held (p : Port) : s.badCheck p = s := by simp [badCheck, h]

theorem received_held (p : Port) (handle : State → State) : s.received p handle = s := by simp [received, h]

theorem frameArrives_held (p : Port) (f : List Byte) (classify : List Byte → State → State) :
    s.frameArrives p f classify = s := by
  unfold frameArrives
  split
  · exact badCheck_held h p
  · split
    · exact linkControl_held h p _
    · exact received_held h p _

theorem running_held (f : State → State) : s.running f = s := by simp [running, h]

end
end State

/-- Settles O5: each of these commands looks first whether the part is held. -/
theorem heldPartTakesNothing : Obligations.HeldPartTakesNothing := by
  intro s hs
  have h := s.isHeld_iff.mpr hs
  have unchanged : ∀ i : Instr, s.after i = s → exec i s = .next s := fun i hi => (exec_eq_next i s).trans (by rw [hi])
  refine ⟨fun p body => unchanged _ (State.linkControl_held h p body), fun p => ⟨?_, ?_, ?_, ?_, ?_, ?_, fun m => ?_⟩,
    fun f => ⟨unchanged _ (State.frameArrives_held h _ _ _), unchanged _ (State.frameArrives_held h _ _ _)⟩,
    fun n => ?_, ?_, ?_, ?_, ?_, fun i r hr => ?_⟩
  · exact unchanged _ (State.badCheck_held h p)
  · exact unchanged (.lossOfSignal p) (by simp [State.after, State.signalLost, h])
  · exact unchanged (.phaseMinimumReached p) (by simp [State.after, State.minimumReached, h])
  · exact unchanged (.phaseDeadline p) (by simp [State.after, State.deadlineReached, h])
  · exact unchanged (.settleTimerExpiry p) (by simp [State.after, State.settleExpires, h])
  · exact unchanged (.retryAttempt p) (by simp [State.after, State.retryStarts, h])
  · exact unchanged (.resetMarkReceived p m) (by simp [State.after, State.markArrives, h])
  · exact unchanged (.staleTimeout n) (State.running_held h _)
  · exact unchanged .evaluationEnd (State.running_held h _)
  · exact unchanged .eventSelection (State.running_held h _)
  · exact unchanged .commitTimeout (State.running_held h _)
  · exact unchanged .holdExpiry (State.running_held h _)
  · rw [exec_request hr s]
    exact congrArg Host.Outcome.next (State.received_held h _ _)

/-! ## Link control frames (R2 to R5, R19) -/

theorem controlOf_eq_some_iff (v : Byte) (c : Control) : controlOf [v] = some c ↔ v = c.code := by
  constructor
  · intro h
    unfold controlOf at h
    dsimp only at h
    split_ifs at h with h1 h2 h3 h4 h5 h6 <;> cases h <;> assumption
  · rintro rfl
    obtain _ | _ | _ | _ | m := c
    · rfl
    · rfl
    · rfl
    · rfl
    · cases m <;> rfl

namespace PortState

theorem enterSeek_eq (x : PortState) (src : Addr) (attempt early : Bool) :
    x.enterSeek src attempt early = x.intoSeek src attempt early := by
  unfold enterSeek startOwn intoSeek
  obtain ⟨link, phase, e, a, settle, retry, run, count, tx⟩ := x
  cases tx <;> rfl

theorem goodInUp_up {x : PortState} (h : x.link = .up) : x.goodInUp = { x with badRun := 0 } := by
  simp [goodInUp, h]

theorem pastMinimum_eq {x : PortState} {k : Nat} (h : x.phase = some k) : x.pastMinimum = decide (40000 ≤ k) := by
  rw [pastMinimum, h]
  rfl

theorem advanceOrEarly_eq {x : PortState} {k : Nat} (h : x.phase = some k) (next : PortState → PortState) :
    x.advanceOrEarly next = if 40000 ≤ k then next x else { x with early := true } := by
  simp only [advanceOrEarly, pastMinimum_eq h, decide_eq_true_eq]

end PortState

namespace State

theorem isUp_iff (s : State) (p : Port) : s.isUp p = true ↔ (s.port p).link = .up := beq_iff_eq

theorem isUp_eq_false_iff (s : State) (p : Port) : s.isUp p = false ↔ (s.port p).link ≠ .up := by
  rw [ne_eq, ← s.isUp_iff p, Bool.not_eq_true]

theorem portDisabled_eq_false_iff (s : State) (p : Port) :
    s.portDisabled p = false ↔ (p = .s → s.settings.portSEnable = true) := by
  cases p <;> simp [portDisabled]

theorem port_setPort (s : State) (p : Port) (x : PortState) : (s.setPort p x).port p = x := by cases p <;> rfl

theorem port_setPort_other (s : State) (p : Port) (x : PortState) : (s.setPort p x).port p.other = s.port p.other := by
  cases p <;> rfl

theorem setPort_port (s : State) (p : Port) : s.setPort p (s.port p) = s := by cases p <;> rfl

section
variable {s : State} {p : Port}

/-- A port that hears link control frames acts on their payload (R9, R12). -/
theorem linkControl_hears (hheld : s.pins.held = none) (hon : p = .s → s.settings.portSEnable = true) (body : List Byte) :
    s.linkControl p body = match controlOf body with
      | none => s.malformedControl p
      | some (.mark m) => s.markArrives p m
      | some v => s.phaseArrives p v := by
  rw [linkControl, s.isHeld_eq_false_iff.mpr hheld, (s.portDisabled_eq_false_iff p).mpr hon]
  rfl

theorem malformedControl_of_not_up (h : (s.port p).link ≠ .up) : s.malformedControl p = s := by
  rw [malformedControl, (s.isUp_eq_false_iff p).mpr h]
  rfl

theorem markArrives_of_not_up (h : (s.port p).link ≠ .up) (m : Mark) : s.markArrives p m = s := by
  rw [markArrives, (s.isUp_eq_false_iff p).mpr h, Bool.not_false, Bool.or_true]
  rfl

/-- Outside UP a frame of one byte does nothing unless it is a phase that the port's own phase answers. -/
theorem linkControl_ignored (hheld : s.pins.held = none) (hon : p = .s → s.settings.portSEnable = true)
    (hdown : (s.port p).link ≠ .up) {v : Byte} (h : ∀ c : Control, v = c.code → s.phaseArrives p c = s) :
    s.linkControl p [v] = s := by
  rw [linkControl_hears hheld hon]
  split
  · exact malformedControl_of_not_up hdown
  · exact markArrives_of_not_up hdown _
  next c _ hc => exact h c ((controlOf_eq_some_iff v c).mp hc)

end
end State

/-- Settles O6: each phase answers its own frames and no other. -/
theorem bringUpFollowsPhases : Obligations.BringUpFollowsPhases := by
  intro s p hheld hon x hears
  have hhears : ∀ v : Byte, hears v = .next (s.linkControl p [v]) := fun _ => rfl
  have hphase : ∀ c : Control, (∀ m : Mark, c ≠ .mark m) → hears c.code = .next (s.phaseArrives p c) := fun c hc => by
    rw [hhears, State.linkControl_hears hheld hon, (controlOf_eq_some_iff _ c).mpr rfl]
    cases c with
    | mark m => exact absurd rfl (hc m)
    | _ => rfl
  refine ⟨fun hdown => ⟨?_, fun v hv => ?_⟩, fun k hseek hk => ⟨fun v hv => ?_, fun v hv hv' => ?_⟩,
    fun k halign hk => ⟨fun v hv => ?_, fun v hv hv' => ?_⟩⟩
  · rw [← PortState.enterSeek_eq]
    refine (hphase .seek (by simp)).trans ?_
    unfold State.phaseArrives
    rw [hdown]
    rfl
  · refine (hhears v).trans (congrArg _ (State.linkControl_ignored hheld hon (by rw [hdown]; decide) (fun c hc => ?_)))
    unfold State.phaseArrives
    rw [hdown]
    cases c with
    | seek => exact absurd hc hv
    | _ => rfl
  · have hadvance : ∀ c : Control, c = .seek ∨ c = .align →
        s.phaseArrives p c = s.setPort p (x.advanceOrEarly PortState.enterAlign) := fun c hc => by
      unfold State.phaseArrives
      rw [hseek]
      obtain rfl | rfl := hc <;> rfl
    rw [PortState.advanceOrEarly_eq hk] at hadvance
    obtain rfl | rfl := hv
    · exact (hphase .seek (by simp)).trans (congrArg _ (hadvance _ (.inl rfl)))
    · exact (hphase .align (by simp)).trans (congrArg _ (hadvance _ (.inr rfl)))
  · refine (hhears v).trans (congrArg _ (State.linkControl_ignored hheld hon (by rw [hseek]; decide) (fun c hc => ?_)))
    unfold State.phaseArrives
    rw [hseek]
    cases c with
    | seek => exact absurd hc hv
    | align => exact absurd hc hv'
    | _ => rfl
  · have hadvance : ∀ c : Control, c = .align ∨ c = .confirm →
        s.phaseArrives p c = s.setPort p (x.advanceOrEarly PortState.enterConfirm) := fun c hc => by
      unfold State.phaseArrives
      rw [halign]
      obtain rfl | rfl := hc <;> rfl
    rw [PortState.advanceOrEarly_eq hk] at hadvance
    obtain rfl | rfl := hv
    · exact (hphase .align (by simp)).trans (congrArg _ (hadvance _ (.inl rfl)))
    · exact (hphase .confirm (by simp)).trans (congrArg _ (hadvance _ (.inr rfl)))
  · refine (hhears v).trans (congrArg _ (State.linkControl_ignored hheld hon (by rw [halign]; decide) (fun c hc => ?_)))
    unfold State.phaseArrives
    rw [halign]
    cases c with
    | align => exact absurd hc hv
    | confirm => exact absurd hc hv'
    | _ => rfl

/-- A port that enters UP: on Port C PRESENCE becomes owed, and nothing else of the part changes (R5, R10). -/
theorem State.enterUp_frame (s : State) (p : Port) :
    (s.enterUp p).port p = (s.port p).intoUp ∧ (s.enterUp p).port p.other = s.port p.other ∧
      (s.enterUp p).links.presenceOwed = (p == .c || s.links.presenceOwed) ∧
      { s.enterUp p with links := s.links } = s ∧
      { (s.enterUp p).links with s := s.links.s, c := s.links.c, presenceOwed := s.links.presenceOwed } = s.links := by
  cases p
  · exact ⟨rfl, rfl, (Bool.false_or _).symm, rfl, rfl⟩
  · exact ⟨rfl, rfl, rfl, rfl, rfl⟩

/-- Settles O7: CONFIRM's table, one frame after another. -/
theorem confirmFollowsItsTable : Obligations.ConfirmFollowsItsTable := by
  intro s p hheld hon hconfirm x hears
  have hdown : (s.port p).link ≠ .up := by rw [hconfirm]; decide
  have hhears : ∀ c : Control, (∀ m : Mark, c ≠ .mark m) → hears c.code = .next (s.phaseInConfirm p c) := fun c hc => by
    refine congrArg Host.Outcome.next ?_
    rw [State.linkControl_hears hheld hon, (controlOf_eq_some_iff _ c).mpr rfl]
    have hphase : s.phaseArrives p c = s.phaseInConfirm p c := by
      unfold State.phaseArrives
      rw [hconfirm]
    cases c with
    | mark m => exact absurd rfl (hc m)
    | _ => exact hphase
  refine ⟨fun k hk hsettle hearly => ?_, fun hset => ?_, ⟨s.enterUp p, hhears .up (by simp), s.enterUp_frame p⟩, ?_,
    fun v h1 h3 h4 => ?_⟩
  · refine (hhears .confirm (by simp)).trans (congrArg Host.Outcome.next ?_)
    have hsettle' : (s.port p).settle = none := hsettle
    have hearly' : (s.port p).early = false := hearly
    have hpast : (s.port p).pastMinimum = decide (40000 ≤ k) := PortState.pastMinimum_eq hk
    simp only [State.phaseInConfirm, hsettle', hearly', hpast, decide_eq_true_eq, Option.isSome_none, Bool.or_self,
      Bool.false_eq_true, if_false]
    split <;> rfl
  · refine (hhears .confirm (by simp)).trans (congrArg Host.Outcome.next (if_pos ?_))
    rw [Bool.or_eq_true, Option.isSome_iff_ne_none]
    exact hset
  · rw [← PortState.enterSeek_eq]
    exact hhears .seek (by simp)
  · refine congrArg Host.Outcome.next (State.linkControl_ignored hheld hon hdown (fun c hc => ?_))
    unfold State.phaseArrives
    rw [hconfirm]
    cases c with
    | seek => exact absurd hc h1
    | confirm => exact absurd hc h3
    | up => exact absurd hc h4
    | _ => rfl

/-- Settles O8: in UP a phase is idle fill, and a malformed frame is a good one that raises MALFORMED_FRAME. -/
theorem linkControlInUp : Obligations.LinkControlInUp := by
  intro s p hheld hon
  have hmalformed : ∀ body : List Byte, controlOf body = none →
      exec (.linkControlReceived p body) s = .next (s.malformedControl p) := fun body hbody => by
    refine congrArg Host.Outcome.next ?_
    rw [State.linkControl_hears hheld hon, hbody]
  refine ⟨fun hup => ⟨fun v hv => ?_, fun body hbody => ?_⟩, fun hdown body hbody => ?_⟩
  · have hidle : ∀ c : Control, c = .align ∨ c = .confirm ∨ c = .up →
        exec (.linkControlReceived p [c.code]) s = .next (s.setPort p { s.port p with badRun := 0 }) := fun c hc => by
      refine congrArg Host.Outcome.next ?_
      rw [State.linkControl_hears hheld hon, (controlOf_eq_some_iff _ c).mpr rfl, ← PortState.goodInUp_up hup]
      have hphase : s.phaseArrives p c = s.phaseInUp p c := by
        unfold State.phaseArrives
        rw [hup]
      obtain rfl | rfl | rfl := hc <;> exact hphase
    obtain rfl | rfl | rfl := hv
    · exact hidle .align (.inl rfl)
    · exact hidle .confirm (.inr (.inl rfl))
    · exact hidle .up (.inr (.inr rfl))
  · rw [hmalformed body hbody, State.malformedControl, (s.isUp_iff p).mpr hup, ← PortState.goodInUp_up hup]
    cases p <;> rfl
  · rw [hmalformed body hbody, State.malformedControl_of_not_up hdown]

/-! ## The timers of bring-up (R2 to R4, R8, R16) -/

namespace State

section
variable {x : PortState} {k : Nat} (hk : x.phase = some k)
include hk

theorem atMinimum_late (he : x.early = false) : atMinimum x = { x with phase := some (max k 40000) } := by
  obtain ⟨link, phase, early, attempt, settle, retry, run, count, tx⟩ := x
  subst hk he
  rfl

theorem atMinimum_seek (he : x.early = true) (hlink : x.link = .seek) :
    atMinimum x = { x with link := .align, phase := some 0, early := false, attempt := false } := by
  obtain ⟨link, phase, early, attempt, settle, retry, run, count, tx⟩ := x
  subst hk he hlink
  rfl

theorem atMinimum_align (he : x.early = true) (hlink : x.link = .align) :
    atMinimum x = { x with link := .confirm, phase := some 0, early := false, settle := none } := by
  obtain ⟨link, phase, early, attempt, settle, retry, run, count, tx⟩ := x
  subst hk he hlink
  rfl

theorem atMinimum_confirm (he : x.early = true) (hlink : x.link = .confirm) :
    atMinimum x = { x with phase := some (max k 40000), settle := some (x.settle.getD 0) } := by
  obtain ⟨link, phase, early, attempt, settle, retry, run, count, tx⟩ := x
  subst hk he hlink
  cases settle <;> rfl

end
end State

/-- Settles O9: what the two phase timer events make of a port, phase by phase. -/
theorem phaseMinimumAndDeadline : Obligations.PhaseMinimumAndDeadline := by
  intro s p hheld x
  have hfree := s.isHeld_eq_false_iff.mpr hheld
  have hdeadline : exec (.phaseDeadline p) s = .next (s.setPort p (State.atDeadline x)) := by
    refine congrArg Host.Outcome.next ?_
    rw [State.deadlineReached, hfree]
    rfl
  have hstay : State.atDeadline x = x → exec (.phaseDeadline p) s = .next s := fun h => by rw [hdeadline, h, State.setPort_port]
  refine ⟨fun k hk => ?_, fun hseek => ?_, fun halign => ?_, fun hconfirm hsettle hearly => ?_, fun hconfirm hset => ?_,
    fun hother => ?_⟩
  · have hminimum : exec (.phaseMinimumReached p) s = .next (s.setPort p (State.atMinimum x)) := by
      refine congrArg Host.Outcome.next ?_
      have hk' : (s.port p).phase = some k := hk
      rw [State.minimumReached, hfree, hk']
      rfl
    rw [hminimum]
    exact ⟨fun he => by rw [State.atMinimum_late hk he],
      fun he hlink => by rw [State.atMinimum_seek hk he hlink],
      fun he hlink => by rw [State.atMinimum_align hk he hlink],
      fun he hlink => by rw [State.atMinimum_confirm hk he hlink]⟩
  · rw [hdeadline, State.atDeadline, hseek]; rfl
  · rw [hdeadline, State.atDeadline, halign]; rfl
  · rw [hdeadline, State.atDeadline, hconfirm]
    dsimp only
    rw [hsettle, hearly]
    rfl
  · refine hstay ?_
    rw [State.atDeadline, hconfirm]
    refine if_neg ?_
    simp only [Bool.and_eq_true, Option.isNone_iff_eq_none, Bool.not_eq_true', not_and, Bool.not_eq_false]
    exact fun h => hset.resolve_left (not_not_intro h)
  · refine hstay ?_
    rw [State.atDeadline]
    obtain h | h := hother <;> rw [h]

/-- Settles O10: each expiry looks at the state it belongs to. -/
theorem settleRetryAndMaskExpiries : Obligations.SettleRetryAndMaskExpiries := by
  refine ⟨fun _ => rfl, fun s p hheld => ?_⟩
  intro x
  have hfree := s.isHeld_eq_false_iff.mpr hheld
  have hsettle : exec (.settleTimerExpiry p) s =
      .next (if x.link = .confirm ∧ x.settle ≠ none then s.enterUp p else s) := by
    refine congrArg Host.Outcome.next ?_
    rw [State.settleExpires, hfree]
    simp [x, Option.isSome_iff_ne_none]
  have hretry : exec (.retryAttempt p) s =
      .next (if x.link = .down ∧ x.retry ≠ none then s.setPort p (x.intoSeek s.partAddr true false) else s) := by
    refine congrArg Host.Outcome.next ?_
    rw [State.retryStarts, hfree, ← PortState.enterSeek_eq]
    simp [x, Option.isSome_iff_ne_none, State.modPort]
  refine ⟨fun hlink hset => ⟨s.enterUp p, ?_, s.enterUp_frame p⟩, fun h => ?_, fun hlink hset => ?_, fun h => ?_⟩
  · rw [hsettle, if_pos ⟨hlink, hset⟩]
  · rw [hsettle, if_neg (fun hc => h.elim (absurd hc.1) (fun e => hc.2 e))]
  · rw [hretry, if_pos ⟨hlink, hset⟩]
  · rw [hretry, if_neg (fun hc => h.elim (absurd hc.1) (fun e => hc.2 e))]

/-! ## Bad checks (R6, R9) -/

/-- A bad check on a port that is heard (R6). -/
theorem State.badCheck_hears {s : State} {p : Port} (hheld : s.pins.held = none)
    (hon : p = .s → s.settings.portSEnable = true) :
    s.badCheck p = if (s.port p).link = .up then
        if 7 ≤ (s.port p).badRun then
          State.linkLoss (s.setPort p { s.port p with
            badCount := min 65535 ((s.port p).badCount + 1), badRun := (s.port p).badRun + 1 }) p
        else s.setPort p { s.port p with
          badCount := min 65535 ((s.port p).badCount + 1), badRun := (s.port p).badRun + 1 }
      else s.setPort p { s.port p with badCount := min 65535 ((s.port p).badCount + 1) } := by
  have hsum : ∀ n : Nat, satAdd n 1 = min 65535 (n + 1) := fun n => rfl
  rw [badCheck, s.isHeld_eq_false_iff.mpr hheld, (s.portDisabled_eq_false_iff p).mpr hon]
  cases p
  all_goals
    simp only [countBad, modPort, isUp, setPort, port, setLinks_links, hsum, Bool.or_self, Bool.false_eq_true, if_false,
      beq_iff_eq, Config.linkLossCount, Nat.reduceLeDiff]
    rfl

theorem State.frameArrives_bad {s : State} {f : List Byte} (h : goodCheck f = false) (p : Port)
    (classify : List Byte → State → State) : s.frameArrives p f classify = s.badCheck p := by
  rw [frameArrives, h]
  rfl

/-- Settles O11: `badCheck_hears` below the eighth consecutive one, and the guards in front of it. -/
theorem badCheckIsCounted : Obligations.BadCheckIsCounted := by
  intro s p hheld x counted
  refine ⟨fun hon hdown => ?_, fun hon hup hrun => ?_, fun hp hoff => ?_, fun f hf => ⟨?_, ?_⟩, fun hdown => ?_⟩
  · exact congrArg Host.Outcome.next ((State.badCheck_hears hheld hon).trans (if_neg hdown))
  · refine congrArg Host.Outcome.next ((State.badCheck_hears hheld hon).trans ((if_pos hup).trans (if_neg ?_)))
    exact Nat.not_le_of_lt hrun
  · refine congrArg Host.Outcome.next ?_
    subst hp
    simp [State.badCheck, State.portDisabled, hoff]
  · exact congrArg Host.Outcome.next (State.frameArrives_bad hf _ _)
  · exact congrArg Host.Outcome.next (State.frameArrives_bad hf _ _)
  · refine congrArg Host.Outcome.next ?_
    rw [State.signalLost, s.isHeld_eq_false_iff.mpr hheld, (s.isUp_eq_false_iff p).mpr hdown]
    rfl

end Sys2Proof.Machine
end

section
/-! A port leaves UP (R6, R7, R40), and how an event ends when nothing is pending. -/

namespace Sys2Proof.Machine
namespace State

variable {s t : State}

/-! ## The end of an event with nothing pending -/

/-- A judged hold changes the hold and the report of it only (R183). -/
theorem judgeHold_frame (s : State) :
    { s.judgeHold with mgmt := { s.judgeHold.mgmt with hold := s.mgmt.hold }, rep := s.rep } = s := by
  unfold judgeHold
  split
  · split <;> rfl
  · rfl

theorem judgeHold_of_free (h : s.mgmt.hold = none) : s.judgeHold = s := by
  unfold judgeHold
  rw [h]

/-- With no commit pending and no reset coming, an event closes with the judgement of the hold (log 18). -/
theorem finish_of_calm (h : s.calm) : s.finish = s.judgeHold := by
  obtain ⟨hcommit, hmark, hrestart⟩ := h
  have hsame := SameWithin.judgeHold s
  unfold finish
  dsimp only
  rw [commitReady_of_idle (hsame.commit.trans hcommit)]
  show s.judgeHold.resetIfCutOff = s.judgeHold
  unfold resetIfCutOff
  rw [hsame.markReset, hmark, hsame.restartMark, hrestart]
  rfl

theorem calm.of_mgmt (h : s.calm) (hm : t.mgmt = s.mgmt) (hl : t.links.markReset = s.links.markReset) : t.calm := by
  obtain ⟨hcommit, hmark, hrestart⟩ := h
  exact ⟨hm ▸ hcommit, hl.trans hmark, hm ▸ hrestart⟩

/-! ## Sources lost (R38, R40, R41) -/

/-- A source of a kind that goes STALE (R38, R40). -/
def staled (p : SourceEntry → Bool) (e : SourceEntry) : SourceEntry :=
  if e.state = .tracking ∧ p e = true then { e with state := .stale, timer := none } else e

theorem goStale_eq_staled (p : SourceEntry → Bool) (e : SourceEntry) :
    (if (e.state == .tracking && p e) = true then e.goStale else e) = staled p e := by
  unfold staled SourceEntry.goStale
  simp only [Bool.and_eq_true, beq_iff_eq]
  by_cases ht : e.state = .tracking <;> simp [ht]

/-- Sources that go STALE with no commit pending: the entries, SOURCE_LOST, and the windows of the groups they carry. -/
theorem staleWhere_frame (p : SourceEntry → Bool) (h : s.mgmt.commit = none) :
    { s.staleWhere p with sources := s.sources, ana := s.ana, disp := s.disp } = s ∧
      (s.staleWhere p).sources = s.sources.map (staled p) ∧
      (∀ k : EventKind, KindSet.has s.disp.pending k = true → KindSet.has (s.staleWhere p).disp.pending k = true) ∧
      ((∃ n : Node, s.sources[n].state = .tracking ∧ p s.sources[n] = true) →
        KindSet.has (s.staleWhere p).disp.pending .sourceLost = true) := by
  unfold staleWhere
  dsimp only
  split
  next hany =>
    generalize hu : (s.setSources
      (vmap (fun e => if (e.state == .tracking && p e) = true then e.goStale else e) s.sources)).raise .sourceLost = u
    have hidle : u.mgmt.commit = none := by rw [← hu]; exact h
    have hrest : { u with sources := s.sources, ana := s.ana, disp := s.disp } = s := by rw [← hu]; rfl
    have hsources : u.sources = s.sources.map (staled p) := by
      rw [← hu]
      simp only [raise, setDisp_sources, setSources_sources, vmap_eq_map, goStale_eq_staled]
    have hkept : ∀ k : EventKind, KindSet.has s.disp.pending k = true → KindSet.has u.disp.pending k = true := fun k hk => by
      rw [← hu]
      exact raised_raise (s.setSources _) _ k hk
    have hlost : KindSet.has u.disp.pending .sourceLost = true := by
      rw [← hu]
      exact raised_raise_self (s.setSources _) _
    have hstep := windowStep_nodesLost (fun n => s.sources[n].state == .tracking && p s.sources[n]) hidle
    generalize u.nodesLost (fun n => s.sources[n].state == .tracking && p s.sources[n]) = t at hstep ⊢
    refine ⟨?_, hstep.sources.trans hsources, fun k hk => hstep.raised k (hkept k hk), fun _ => hstep.raised _ hlost⟩
    rw [← hrest, ← hstep.rest]
  next hnone =>
    have hkept : ∀ e ∈ s.sources.toList, staled p e = e := fun e he => by
      refine if_neg (fun hc => hnone (List.any_eq_true.mpr ⟨e, he, ?_⟩))
      simpa using hc
    refine ⟨rfl, ?_, fun _ hk => hk, fun ⟨n, hn⟩ => absurd ?_ hnone⟩
    · refine Vector.toList_inj.mp ?_
      rw [Vector.toList_map, List.map_congr_left hkept, List.map_id']
    · exact List.any_eq_true.mpr ⟨s.sources[n], by simp, by simpa using hn⟩

/-! ## Leaving UP (R7) -/

theorem sendsResetPart_eq_false {x : PortState} (h : ∀ f : TxFrame, x.tx = some f → f.sort ≠ .report true) :
    x.sendsResetPart = false := by
  unfold PortState.sendsResetPart
  split
  next f hf => exact beq_false_of_ne (h f hf)
  next => rfl

theorem calm_leaveUp (h : s.calm) (p : Port) (f : PortState → PortState) : ((s.leaveUp p).modPort p f).calm := by
  refine h.of_mgmt ((modPort_mgmt _ _ _).trans (leaveUp_idle p h.1)) ?_
  cases p
  · exact (congrArg (fun x : State => x.links.markReset) (staleWhere_frame (s := (s.raise .linkDown).modPort .s
      (fun x => { x with tx := none })) (fun _ => true) h.1).1 :)
  · rfl

theorem linkLoss_of_calm {p : Port} (h : s.calm) (htx : (s.port p).sendsResetPart = false) :
    s.linkLoss p = ((s.leaveUp p).modPort p (fun x => x.enterDown (some 0))).judgeHold := by
  rw [linkLoss, htx, afterLeaving]
  exact finish_of_calm (calm_leaveUp h p _)

theorem partnerSeeks_of_calm {p : Port} (h : s.calm) (htx : (s.port p).sendsResetPart = false) :
    s.partnerSeeks p = ((s.leaveUp p).modPort p (fun x => x.intoSeek s.partAddr false true)).judgeHold := by
  rw [partnerSeeks, htx, afterLeaving]
  simp only [PortState.enterSeek_eq]
  exact finish_of_calm (calm_leaveUp h p _)

/-- What leaving UP changes, for either next state of the port; `t` is the state after, `s` the one before. -/
structure LeftUp (t s : State) (p : Port) (f : PortState → PortState) : Prop where
  port : t.port p = f { s.port p with tx := none }
  other : t.port p.other = s.port p.other
  down : KindSet.has t.disp.pending .linkDown = true
  portC : p = .c → t.fwd = { s.fwd with sToC := [] } ∧ t.links.presenceOwed = false ∧ t.sources = s.sources ∧ t.ana = s.ana
  portS : p = .s → t.fwd = s.fwd ∧ t.links.presenceOwed = s.links.presenceOwed ∧
    t.sources = s.sources.map (staled (fun _ => true)) ∧
    ((∃ n : Node, s.sources[n].state = .tracking) → KindSet.has t.disp.pending .sourceLost = true)
  rest : t.snap = s.snap ∧ t.mgmt = s.mgmt ∧ t.chk = s.chk ∧ t.latches = s.latches ∧ t.pins = s.pins

theorem leftUp (h : s.calm) (p : Port) (f : PortState → PortState) : ((s.leaveUp p).modPort p f).LeftUp s p f := by
  have hraised := raised_raise_self s .linkDown
  cases p with
  | c => exact ⟨rfl, rfl, hraised, fun _ => ⟨rfl, rfl, rfl, rfl⟩, fun e => (by cases e), rfl, rfl, rfl, rfl, rfl⟩
  | s =>
    obtain ⟨hrest, hsources, hkept, hlost⟩ := staleWhere_frame (s := (s.raise .linkDown).modPort .s
      (fun x => { x with tx := none })) (fun _ => true) h.1
    have hlinks : ((s.leaveUp .s)).links = ((s.raise .linkDown).modPort .s (fun x => { x with tx := none })).links :=
      (congrArg State.links hrest :)
    refine ⟨congrArg (fun l : Links => f l.s) hlinks, (congrArg Links.c hlinks :), hkept _ hraised, fun e => (by cases e), fun _ =>
      ⟨(congrArg State.fwd hrest :), (congrArg Links.presenceOwed hlinks :), hsources, fun ⟨n, hn⟩ => hlost ⟨n, hn, rfl⟩⟩,
      (congrArg State.snap hrest :), (congrArg State.mgmt hrest :), (congrArg State.chk hrest :),
      (congrArg State.latches hrest :), (congrArg State.pins hrest :)⟩

end State

namespace State

/-- A command by which a port leaves UP. -/
def Leaves (s : State) (p : Port) (i : Instr) : Prop :=
  i = .lossOfSignal p ∨ (i = .badCheckFrame p ∧ 7 ≤ (s.port p).badRun) ∨ i = .linkControlReceived p [0x01]

/-- The port's counts brought up to date by a command by which it leaves UP (R5, R6). -/
def leavingCounts (x : PortState) (p : Port) (i : Instr) : PortState :=
  if i = .badCheckFrame p then { x with badCount := min 65535 (x.badCount + 1), badRun := x.badRun + 1 }
  else if i = .linkControlReceived p [0x01] then { x with badRun := 0 } else x

/-- The state a port leaves UP for (R5, R6). -/
def leavingInto (src : Addr) (p : Port) (i : Instr) : PortState → PortState :=
  if i = .linkControlReceived p [0x01] then fun x => x.intoSeek src false true else fun x => x.enterDown (some 0)

/-- Each of the three commands counts, leaves UP, enters the next state and judges the hold. -/
theorem exec_leaves {p : Port} {i : Instr} (hheld : s.pins.held = none) (hon : p = .s → s.settings.portSEnable = true)
    (hup : (s.port p).link = .up) (hcalm : s.calm) (htx : (s.port p).sendsResetPart = false) (hi : s.Leaves p i) :
    exec i s = .next ((((s.setPort p (leavingCounts (s.port p) p i)).leaveUp p).modPort p
      (leavingInto s.partAddr p i)).judgeHold) := by
  have hset : ∀ x : PortState, (s.setPort p x).calm := fun x => hcalm.of_mgmt (by cases p <;> rfl) (by cases p <;> rfl)
  obtain rfl | ⟨rfl, hrun⟩ | rfl := hi
  · refine congrArg Host.Outcome.next ?_
    rw [leavingCounts, if_neg (by simp), if_neg (by simp), s.setPort_port]
    refine Eq.trans ?_ ((linkLoss_of_calm hcalm htx).trans ?_)
    · rw [signalLost, s.isHeld_eq_false_iff.mpr hheld, (s.isUp_iff p).mpr hup]
      rfl
    · rw [leavingInto, if_neg (by simp)]
  · refine congrArg Host.Outcome.next ((badCheck_hears hheld hon).trans ((if_pos hup).trans ((if_pos hrun).trans ?_)))
    rw [leavingCounts, if_pos rfl]
    refine (linkLoss_of_calm (hset _) (by rw [port_setPort]; exact htx)).trans ?_
    rw [leavingInto, if_neg (by simp)]
  · refine congrArg Host.Outcome.next ?_
    rw [leavingCounts, if_neg (by simp), if_pos rfl]
    have haddr : (s.setPort p { s.port p with badRun := 0 }).partAddr = s.partAddr := by cases p <;> rfl
    have hseeks := partnerSeeks_of_calm (p := p) (hset { s.port p with badRun := 0 }) (by rw [port_setPort]; exact htx)
    rw [haddr] at hseeks
    rw [leavingInto, if_pos rfl, ← hseeks, ← PortState.goodInUp_up hup, linkControl_hears hheld hon]
    show s.phaseArrives p .seek = _
    unfold phaseArrives
    rw [hup]
    rfl

end State

/-- Settles O12: each of the three commands brings the port's counts up to date and leaves UP, and `leftUp` says what that
changes. -/
theorem portLeavesUp : Obligations.PortLeavesUp := by
  intro s p i hheld hon hup hcalm htx hi
  have hexec := State.exec_leaves hheld hon hup hcalm (State.sendsResetPart_eq_false htx) hi
  have hset : (s.setPort p (State.leavingCounts (s.port p) p i)).calm :=
    hcalm.of_mgmt (by cases p <;> rfl) (by cases p <;> rfl)
  obtain ⟨hport, hother, hdown, hportC, hportS, hsnap, hmgmt, hchk, hlatches, hpins⟩ :=
    State.leftUp hset p (State.leavingInto s.partAddr p i)
  generalize ((s.setPort p (State.leavingCounts (s.port p) p i)).leaveUp p).modPort p (State.leavingInto s.partAddr p i) = t
    at hexec hport hother hdown hportC hportS hsnap hmgmt hchk hlatches hpins
  rw [State.port_setPort] at hport
  rw [State.port_setPort_other] at hother
  have hrest := t.judgeHold_frame
  have hlinks : t.judgeHold.links = t.links := (congrArg State.links hrest :)
  have hjport : ∀ q : Port, t.judgeHold.port q = t.port q := fun q => by cases q <;> simp only [State.port, hlinks]
  have hdisp : t.judgeHold.disp = t.disp := (congrArg State.disp hrest :)
  have hsources : t.judgeHold.sources = t.sources := (congrArg State.sources hrest :)
  have hfwd : t.judgeHold.fwd = t.fwd := (congrArg State.fwd hrest :)
  have hsame : ∀ x : PortState, (s.setPort p x).fwd = s.fwd ∧ (s.setPort p x).sources = s.sources ∧
      (s.setPort p x).ana = s.ana ∧ (s.setPort p x).snap = s.snap ∧ (s.setPort p x).mgmt = s.mgmt ∧
      (s.setPort p x).chk = s.chk ∧ (s.setPort p x).latches = s.latches ∧ (s.setPort p x).pins = s.pins ∧
      (s.setPort p x).links.presenceOwed = s.links.presenceOwed := fun x => by
    cases p <;> exact ⟨rfl, rfl, rfl, rfl, rfl, rfl, rfl, rfl, rfl⟩
  obtain ⟨sfwd, ssources, sana, ssnap, smgmt, schk, slatches, spins, sowed⟩ := hsame (State.leavingCounts (s.port p) p i)
  rw [sfwd, ssources, sana] at hportC
  rw [sfwd, ssources, sowed] at hportS
  have hmanaged : ∀ {α : Type} (f : Management → α), (∀ (m : Management) (x : Option Hold), f { m with hold := x } = f m) →
      f t.judgeHold.mgmt = f s.mgmt := fun f hf => by
    have hm : { t.judgeHold.mgmt with hold := t.mgmt.hold } = t.mgmt := congrArg State.mgmt hrest
    rw [← hf t.judgeHold.mgmt t.mgmt.hold, hm, hmgmt, smgmt]
  refine ⟨_, hexec, fun hne => ?_, fun he => ?_, ?_, (hjport _).trans hother, hdisp ▸ hdown, fun hp => ?_, fun hp => ?_,
    (congrArg State.snap hrest : _ = t.snap).trans (hsnap.trans ssnap), hmanaged Management.active (fun _ _ => rfl),
    hmanaged Management.staging (fun _ _ => rfl), hmanaged Management.request (fun _ _ => rfl),
    (congrArg State.chk hrest : _ = t.chk).trans (hchk.trans schk),
    (congrArg State.latches hrest : _ = t.latches).trans (hlatches.trans slatches),
    (congrArg State.pins hrest : _ = t.pins).trans (hpins.trans spins)⟩
  · rw [hjport, hport, State.leavingInto, if_neg hne]
    exact ⟨rfl, rfl, rfl, rfl, rfl, rfl, rfl⟩
  · rw [hjport, hport, State.leavingInto, if_pos he, State.leavingCounts, he, if_neg (by simp), if_pos rfl]
  · rw [hjport, hport, State.leavingInto, State.leavingCounts]
    split_ifs <;> rfl
  · obtain ⟨h1, h2, h3, h4⟩ := hportC hp
    exact ⟨hfwd.trans h1, hlinks ▸ h2, hsources.trans h3, (congrArg State.ana hrest : _ = t.ana).trans h4⟩
  · obtain ⟨h1, h2, h3, h4⟩ := hportS hp
    refine ⟨hfwd.trans h1, hlinks ▸ h2, fun n => ?_, fun hn => hdisp ▸ h4 hn⟩
    rw [hsources, h3]
    simp [State.staled]

end Sys2Proof.Machine
end

section
/-! Reset marks and the Analysis Restart (R13 to R17). -/

namespace Sys2Proof.Machine

theorem EventKind.flag_alone (k : EventKind) : KindSet.set 0 k = k.flag := by cases k <;> decide

namespace State

variable {s t u : State}

/-! ## The Analysis Restart with no commit pending (R13) -/

theorem takeRestart_of_idle (h : s.mgmt.commit = none) (r : Option Request) :
    s.takeRestart r = ((s.restartBlocks).answerRestart r).raiseDeferred s.links.refusalDeferred := by
  unfold takeRestart
  dsimp only
  rw [s.switchRemaining_idle.mpr h]

/-- After a restart the blocks have their values; the reply to the request that caused it is owed, and so may be a
refusal. -/
theorem takeRestart_eq (h : s.mgmt.commit = none) (r : Option Request) :
    s.takeRestart r = { s.restartBlocks with
      rep := ⟨(r.map (fun r => ⟨r.source, .reply ⟨r.seq, r.code, .done, []⟩⟩)).toList, 0, []⟩
      disp := if s.links.refusalDeferred then s.disp.restart.raise .resetMarkRefused else s.disp.restart } := by
  rw [takeRestart_of_idle h]
  have hanswered : s.restartBlocks.answerRestart r = { s.restartBlocks with
      rep := ⟨(r.map (fun r => ⟨r.source, .reply ⟨r.seq, r.code, .done, []⟩⟩)).toList, 0, []⟩ } := by
    cases r with
    | none => rfl
    | some r => exact s.restartBlocks.answer_spec r .done []
  rw [hanswered]
  cases s.links.refusalDeferred <;> rfl

theorem restartedFrom_takeRestart (h : s.mgmt.commit = none) (r : Option Request) : (s.takeRestart r).RestartedFrom s := by
  rw [takeRestart_eq h]
  exact {
    buffers := ⟨rfl, rfl, rfl⟩
    sources := fun n => Vector.getElem_replicate _
    groups := s.group_restartBlocks
    engine := ⟨rfl, rfl, fun _ => Vector.getElem_replicate _⟩
    limits := rfl
    latches := ⟨rfl, fun _ => Vector.getElem_replicate _⟩
    events := by
      cases s.links.refusalDeferred
      · exact ⟨rfl, rfl, rfl, rfl, rfl, rfl, rfl⟩
      · exact ⟨rfl, rfl, rfl, rfl, rfl, rfl, EventKind.flag_alone _⟩
    control := rfl
    snapshot := rfl
    ports := fun p => by cases p <;> rfl
    links := ⟨rfl, rfl, rfl, rfl⟩
    queue := rfl }

/-- The frame that follows a restart's mark changes what a port transmits, the PRESENCE owed and the transmit sequence. -/
theorem RestartedFrom.transmit (h : t.RestartedFrom s) (hrest : { u with links := t.links, fwd := t.fwd } = t)
    (hfwd : { u.fwd with txSeq := t.fwd.txSeq } = t.fwd) (hports : ∀ p : Port, { u.port p with tx := (t.port p).tx } = t.port p)
    (hlinks : { u.links with s := t.links.s, c := t.links.c, presenceOwed := t.links.presenceOwed } = t.links) :
    u.RestartedFrom s := by
  have hgroup : ∀ g : Group, u.group g = t.group g := fun g => (congrArg (fun x : State => x.group g) hrest :)
  obtain ⟨buffers, sources, groups, engine, limits, latches, events, control, snapshot, ports, links, queue⟩ := h
  rw [← hrest] at sources engine limits latches events control snapshot queue
  refine ⟨?_, sources, fun g => (hgroup g).trans (groups g), engine, limits, latches, events, control, snapshot, fun p => ?_, ?_, queue⟩
  · rw [← hfwd] at buffers
    exact buffers
  · rw [← ports p, ← hports p]
  · rw [← hlinks] at links
    exact links

/-- After a restart Port S has nothing to send but its own frame (R1). -/
theorem nextS_of_empty (h : s.fwd.cToS = []) : s.nextS = s.sendControl .s := by
  unfold nextS
  rw [h]
  exact ite_self _

/-- With nothing queued Port C sends an owed PRESENCE, or its own frame (R1, R10, R31). -/
theorem nextC_of_empty (hfwd : s.fwd.sToC = []) (hrep : s.rep.records = []) (hslot : s.disp.slot = none) :
    s.nextC = if s.isUp .c && s.links.presenceOwed then s.sendPresence else s.sendControl .c := by
  have hready : ∀ x : Source, s.ready x = false := fun x => by cases x <;> simp [ready, hfwd, hrep, hslot]
  have hgranted : s.granted = none := List.find?_eq_none.mpr (fun x _ => by simp [hready])
  unfold nextC grant
  rw [hgranted, ite_self]
  cases s.isUp .c <;> cases s.links.presenceOwed <;> rfl

theorem RestartedFrom.sendControl (h : t.RestartedFrom s) (p : Port) : (t.sendControl p).RestartedFrom s := by
  cases p <;> exact h.transmit rfl rfl (fun q => by cases q <;> rfl) rfl

theorem RestartedFrom.nextFrame (h : t.RestartedFrom s) (hrep : t.rep.records = []) (p : Port) :
    (t.nextFrame p).RestartedFrom s := by
  cases p with
  | s =>
    rw [State.nextFrame, nextS_of_empty h.buffers.2.1]
    exact h.sendControl .s
  | c =>
    show t.nextC.RestartedFrom s
    rw [nextC_of_empty h.buffers.1 hrep h.events.2.2.2.1]
    split
    · exact h.transmit rfl rfl (fun q => by cases q <;> rfl) rfl
    · exact h.sendControl .c

theorem nextFrame_rep (hfwd : t.fwd.sToC = []) (hcToS : t.fwd.cToS = []) (hrep : t.rep.records = [])
    (hslot : t.disp.slot = none) (p : Port) : (t.nextFrame p).rep = t.rep := by
  cases p with
  | s => rw [nextFrame, nextS_of_empty hcToS]; rfl
  | c =>
    rw [nextFrame, nextC_of_empty hfwd hrep hslot]
    split <;> rfl

end State

/-! ## Marks received (R14, R15) -/

namespace State

variable {s : State} {p : Port}

/-- A mark on a port in UP (R14). -/
theorem markArrives_up (hheld : s.pins.held = none) (hup : (s.port p).link = .up) (m : Mark) :
    s.markArrives p m = (let heard := s.setPort p { s.port p with badRun := 0 }
      if heard.markAccepted p m then heard.acceptMark p m else heard.refuseMark) := by
  rw [markArrives, s.isHeld_eq_false_iff.mpr hheld, (s.isUp_iff p).mpr hup, ← PortState.goodInUp_up hup]
  rfl

/-- The active reset accept field of the arrival port lets a mark through (R14). -/
theorem markAccepted_setPort (s : State) (p : Port) (x : PortState) (m : Mark) :
    (s.setPort p x).markAccepted p m = true ↔ s.links.mask = none ∧ s.resetComing = false ∧
      (m = .sectionMark → s.accepts p = true) := by
  have hcoming : (s.setPort p x).resetComing = s.resetComing := by cases p <;> rfl
  have hmask : (s.setPort p x).links.mask = s.links.mask := by cases p <;> rfl
  have haccepts : (s.setPort p x).accepts p = s.accepts p := by cases p <;> rfl
  unfold markAccepted
  rw [hcoming, hmask]
  cases m <;> simp [haccepts, and_assoc]

theorem resetComing_eq_false_iff (s : State) :
    s.resetComing = false ↔ s.links.markReset = none ∧ s.mgmt.restartMark = false := by
  rw [resetComing, Bool.or_eq_false_iff, Option.isSome_eq_false_iff, Option.isNone_iff_eq_none]

end State

/-- Settles O13: the two ways a mark is refused, and when the event for it comes. -/
theorem refusedMarkIsReported : Obligations.RefusedMarkIsReported := by
  intro s p m hheld heard accept coming
  have hcoming : coming ↔ s.resetComing = true := by
    rw [State.resetComing, Bool.or_eq_true, Option.isSome_iff_ne_none]
  have hheard : heard.resetComing = s.resetComing := by cases p <;> rfl
  refine ⟨fun hdown => congrArg Host.Outcome.next (State.markArrives_of_not_up hdown m), fun hup hnot hrefused => ?_,
    fun hup hc => ?_⟩
  all_goals refine congrArg Host.Outcome.next ((State.markArrives_up hheld hup m).trans ((if_neg ?_).trans ?_))
  · rw [s.markAccepted_setPort]
    rintro ⟨hmask, -, haccept⟩
    obtain h | ⟨hm, h⟩ := hrefused
    · exact h hmask
    · have hclosed : s.accepts p = false := by cases p <;> exact h
      rw [haccept hm] at hclosed
      cases hclosed
  · rw [State.refuseMark, if_neg (by rw [hheard, ← hcoming]; exact hnot)]
    cases p <;> rfl
  · rw [s.markAccepted_setPort]
    rintro ⟨-, hfree, -⟩
    rw [hcoming.mp hc] at hfree
    cases hfree
  · rw [State.refuseMark, if_pos (by rw [hheard]; exact hcoming.mp hc)]
    rfl

/-- Settles O14: the mark goes out of the other port and its reset is noted. -/
theorem acceptedMarkIsPassedOn : Obligations.AcceptedMarkIsPassedOn := by
  intro s p m hheld hup hmask hreset hrestart haccept hother sent
  have haccepted := (s.markAccepted_setPort p { s.port p with badRun := 0 } m).mpr
    ⟨hmask, s.resetComing_eq_false_iff.mpr ⟨hreset, hrestart⟩, fun h => by cases p <;> exact haccept h⟩
  refine ⟨_, congrArg Host.Outcome.next ((State.markArrives_up hheld hup m).trans ((if_pos haccepted).trans (if_pos ?_))), ?_⟩
  · cases p <;> exact beq_iff_eq.mpr hother
  · cases p <;> cases m <;> exact ⟨rfl, rfl, rfl, rfl, rfl, rfl⟩

/-- Settles O15: with the other port not UP the reset follows within the event. -/
theorem acceptedMarkResetsAtOnce : Obligations.AcceptedMarkResetsAtOnce := by
  intro s p hheld hup hmask hcalm hdeferred hother cause heard
  obtain ⟨hcommit, hreset, hrestart⟩ := hcalm
  have htaken : ∀ m : Mark, (m = .sectionMark → s.accepts p = true) →
      exec (.resetMarkReceived p m) s = .next (heard.startMask.takeMarkReset ⟨m, p⟩) := fun m haccept => by
    have haccepted := (s.markAccepted_setPort p { s.port p with badRun := 0 } m).mpr
      ⟨hmask, s.resetComing_eq_false_iff.mpr ⟨hreset, hrestart⟩, haccept⟩
    refine congrArg Host.Outcome.next ((State.markArrives_up hheld hup m).trans ((if_pos haccepted).trans (if_neg ?_)))
    cases p <;> exact fun h => hother (beq_iff_eq.mp h)
  constructor
  · refine (htaken .stationMark (by simp)).trans (congrArg Host.Outcome.next ?_)
    have hd : heard.startMask.links.refusalDeferred = false := by cases p <;> exact hdeferred
    show heard.startMask.takeFullReset _ = _
    rw [State.takeFullReset, hd]
    cases p <;> rfl
  · intro haccept
    have hidle : heard.startMask.mgmt.commit = none := by cases p <;> exact hcommit
    refine ⟨_, htaken .sectionMark (fun _ => by cases p <;> exact haccept), State.restartedFrom_takeRestart hidle none, ?_⟩
    exact (congrArg State.rep (State.takeRestart_eq hidle none) :)

/-! ## The end of a propagated mark (R15, R17) -/

/-- A full reset, with a refusal held back raised after it (R12, R14). -/
theorem State.takeFullReset_frame (s : State) (cause : ResetCause) :
    { s.takeFullReset cause with disp := Dispatcher.reset } =
        State.fullReset s.pending s.pins.straps s.links.mask cause ∧
      { (s.takeFullReset cause).disp with pending := 0 } = Dispatcher.reset ∧
      (s.takeFullReset cause).disp.pending = if s.links.refusalDeferred then EventKind.flag .resetMarkRefused else 0 := by
  rw [takeFullReset]
  cases s.links.refusalDeferred
  · exact ⟨rfl, rfl, rfl⟩
  · exact ⟨rfl, rfl, EventKind.flag_alone _⟩

/-- Settles O16: the reset awaited takes effect, and the frame that follows a restart's mark is the port's own. -/
theorem markEndTakesItsReset : Obligations.MarkEndTakesItsReset := by
  intro s hidle
  have hsends : ∀ p : Port, (∃ b, (s.port p).tx = some ⟨.mark, b⟩) → (s.port p).sendsMark = true := fun p ⟨b, hb⟩ => by
    rw [PortState.sendsMark, hb]
    rfl
  have hends : ∀ m : MarkReset, s.links.markReset = some m → (∃ b, (s.port m.arrival.other).tx = some ⟨.mark, b⟩) →
      exec .markTransmissionEnd s = .next ((s.takeMarkReset m).afterMark m.mark m.arrival.other) := fun m hm htx => by
    refine congrArg Host.Outcome.next ?_
    unfold State.markEnds
    rw [hm]
    exact if_pos (hsends _ htx)
  refine ⟨fun p hm htx => ⟨_, hends _ hm htx, ?_⟩, fun p hm htx => ⟨_, hends _ hm htx, ?_⟩, fun r hm hr hreq htx => ?_,
    fun hm hr => ?_⟩
  · cases p <;> exact s.takeFullReset_frame _
  · have hrestarted := State.restartedFrom_takeRestart hidle none
    have hrep : (s.takeRestart none).rep = ⟨[], 0, []⟩ := congrArg State.rep (State.takeRestart_eq hidle none)
    have hempty : (s.takeRestart none).rep.records = [] := by rw [hrep]
    refine ⟨hrestarted.nextFrame hempty p.other, ?_⟩
    exact (State.nextFrame_rep hrestarted.buffers.1 hrestarted.buffers.2.1 hempty hrestarted.events.2.2.2.1 p.other).trans hrep
  · have hrestarted := State.restartedFrom_takeRestart hidle (some r)
    refine ⟨_, ?_, hrestarted.sendControl .s, (congrArg State.rep (State.takeRestart_eq hidle (some r)) :)⟩
    refine congrArg Host.Outcome.next ?_
    unfold State.markEnds
    rw [hm, hr, hsends .s htx, hreq]
    exact State.nextS_of_empty hrestarted.buffers.2.1
  · refine congrArg Host.Outcome.next ?_
    unfold State.markEnds
    rw [hm, hr]
    rfl

end Sys2Proof.Machine
end

section
/-! Received frames: the ports that hear them, the frame the part builds read back field by field, the offers to the
forward buffers, and the classifier (R19, R21 to R28, R34). -/

namespace Sys2Proof.Machine

/-! ## A built frame read back (R18 to R20) -/

theorem addrOf_addrByte (a : Addr) : addrOf (addrByte a) = a := by
  apply BitVec.eq_of_toNat_eq
  have := a.isLt
  simp only [addrOf, addrByte, BitVec.extractLsb'_toNat, BitVec.toNat_setWidth, Nat.shiftRight_zero]
  omega

theorem addrByte_le (a : Addr) : (addrByte a).toNat ≤ 63 := by
  have := a.isLt
  simp only [addrByte, BitVec.toNat_setWidth]
  omega

theorem half_be16 (x : Half) : half (x.extractLsb' 8 8) (x.extractLsb' 0 8) = x := by
  show x.extractLsb' 8 8 ++ x.extractLsb' 0 8 = x
  ext i hi
  rw [BitVec.getElem_append]
  split
  · simp
    rfl
  · have hsum : 8 + (i - 8) = i := by omega
    simp [hsum]
    rfl

section
variable (kind : Byte) (dest src : Addr) (seq : Byte) (body : List Byte)

/-- The checked part of a built frame. -/
theorem buildFrame_eq : ∃ hi lo : Byte, half hi lo = BitVec.ofNat 16 body.length ∧
    buildFrame kind dest src seq body =
      (kind :: addrByte dest :: addrByte src :: seq :: hi :: lo :: body) ++
        be16 (check (kind :: addrByte dest :: addrByte src :: seq :: hi :: lo :: body)) :=
  ⟨_, _, half_be16 _, rfl⟩

theorem length_buildFrame : (buildFrame kind dest src seq body).length = body.length + 8 := by
  obtain ⟨hi, lo, -, h⟩ := buildFrame_eq kind dest src seq body
  rw [h]
  simp [be16]

theorem goodCheck_buildFrame : goodCheck (buildFrame kind dest src seq body) = true := by
  have hlen := length_buildFrame kind dest src seq body
  obtain ⟨hi, lo, -, h⟩ := buildFrame_eq kind dest src seq body
  rw [goodCheck, checkedPart, hlen, h]
  generalize hb : kind :: addrByte dest :: addrByte src :: seq :: hi :: lo :: body = bs
  have hbs : bs.length = body.length + 8 - 2 := by simp [← hb]
  rw [← hbs, List.take_left, List.drop_left]
  simp

theorem kindByte_buildFrame : kindByte (buildFrame kind dest src seq body) = kind := rfl
theorem destByte_buildFrame : destByte (buildFrame kind dest src seq body) = addrByte dest := rfl
theorem sourceByte_buildFrame : sourceByte (buildFrame kind dest src seq body) = addrByte src := rfl

theorem payload_buildFrame : payload (buildFrame kind dest src seq body) = body := by
  have hlen := length_buildFrame kind dest src seq body
  obtain ⟨hi, lo, -, h⟩ := buildFrame_eq kind dest src seq body
  rw [payload, hlen, h]
  show (body ++ _).take (body.length + 8 - 8) = body
  exact List.take_left

/-- A built frame has a well-formed header exactly when its payload fits (R19). -/
theorem malformedHeader_buildFrame :
    malformedHeader (buildFrame kind dest src seq body) = decide (240 < body.length) := by
  have hlen := length_buildFrame kind dest src seq body
  have hfield : lengthField (buildFrame kind dest src seq body) = body.length % 65536 := by
    show (half _ _).toNat = _
    obtain ⟨hi, lo, hhalf, h⟩ := buildFrame_eq kind dest src seq body
    rw [show byteAt (buildFrame kind dest src seq body) 4 = hi by rw [h]; rfl,
      show byteAt (buildFrame kind dest src seq body) 5 = lo by rw [h]; rfl, hhalf]
    exact BitVec.toNat_ofNat _ _
  have hdest := addrByte_le dest
  have hsrc := addrByte_le src
  rw [Bool.eq_iff_iff, malformedHeader, hlen, hfield, destByte_buildFrame, sourceByte_buildFrame]
  simp only [Bool.or_eq_true, decide_eq_true_eq]
  omega

end

namespace State

variable {s t : State}

/-! ## The ports that hear a frame (R4, R5, R34) -/

/-- A frame Port S hears is handled in the state with the ports as they have heard it. -/
theorem received_hearsOnS (h : s.hearsOnS) (f : State → State) :
    s.received .s f = f { s with links := s.links.heardOnS } := by
  obtain ⟨hheld, hon, hmark, hlink⟩ := h
  have hdisabled : s.portDisabled .s = false := (s.portDisabled_eq_false_iff .s).mpr (fun _ => hon)
  unfold State.received
  rw [s.isHeld_eq_false_iff.mpr hheld, hdisabled]
  rcases hlink with hup | hconfirm
  · simp [port, hup, hmark, modPort, setPort, setLinks, PortState.goodInUp, Links.heardOnS]
  · simp [port, hconfirm, hmark, modPort, setPort, setLinks, enterUp, PortState.enterUp, Links.heardOnS, PortState.intoUp]

/-- A good frame that is no link control frame goes to the classifier (R19). -/
theorem frameArrives_classified {f : List Byte} (hgood : goodCheck f = true)
    (hkind : malformedHeader f = true ∨ kindByte f ≠ kindLinkControl) (s : State) (p : Port)
    (classify : List Byte → State → State) : s.frameArrives p f classify = s.received p (classify f) := by
  have hcontrol : (!malformedHeader f && kindByte f == kindLinkControl) = false := by
    obtain h | h := hkind <;> simp [h]
  rw [frameArrives, hgood, hcontrol]
  rfl

theorem received_unheard {p : Port} (hup : (s.port p).link ≠ .up) (hconfirm : (s.port p).link ≠ .confirm)
    (f : State → State) : s.received p f = s := by
  unfold State.received
  split
  · rfl
  · split
    next h => exact absurd h hup
    next h => exact absurd h hconfirm
    all_goals rfl

/-- While an accepted mark's reset is pending a frame is heard and no more (R34). -/
theorem received_marked {p : Port} (hheld : s.pins.held = none) (hon : p = .s → s.settings.portSEnable = true)
    (hup : (s.port p).link = .up) (hmark : s.links.markReset ≠ none) (f : State → State) :
    s.received p f = s.setPort p { s.port p with badRun := 0 } := by
  have hmark' : (s.modPort p PortState.goodInUp).links.markReset.isSome = true := by
    rw [(SameControl.goodInUp s p).markReset]
    exact Option.isSome_iff_ne_none.mpr hmark
  unfold State.received
  rw [s.isHeld_eq_false_iff.mpr hheld, (s.portDisabled_eq_false_iff p).mpr hon, hup, ← PortState.goodInUp_up hup]
  exact if_pos hmark'

end State

/-- Settles O17: the receiver discards before the classifier sees the frame. -/
theorem unheardFramesAreDiscarded : Obligations.UnheardFramesAreDiscarded := by
  intro s f hgood hkind
  have hS : exec (.portSFrameReceived f) s = .next (s.received .s (State.classifyS f)) :=
    congrArg Host.Outcome.next (State.frameArrives_classified hgood hkind s .s _)
  have hC : exec (.portCFrameReceived f) s = .next (s.received .c (State.classifyC f)) :=
    congrArg Host.Outcome.next (State.frameArrives_classified hgood hkind s .c _)
  refine ⟨fun hup hconfirm => ?_, fun hup hconfirm => ⟨?_, fun i r hr => ?_⟩,
    fun hheld hmark => ⟨fun hup hon => ?_, fun hup => ⟨?_, fun i r hr => ?_⟩⟩⟩
  · rw [hS, State.received_unheard hup hconfirm]
  · rw [hC, State.received_unheard hup hconfirm]
  · rw [exec_request hr, State.requestArrives, State.received_unheard hup hconfirm]
  · rw [hS, State.received_marked hheld (fun _ => hon) hup hmark]
  · rw [hC, State.received_marked hheld (by simp) hup hmark]
  · rw [exec_request hr, State.requestArrives, State.received_marked hheld (by simp) hup hmark]

/-! ## The offers to the forward buffers (R26 to R28) -/

namespace State

theorem offerSToC_eq (s : State) (f : List Byte) : s.offerSToC f = { s with
    fwd := { s.fwd with
      sToC := if s.links.c.link = .up ∧ s.fwd.sToC.length < 8 then s.fwd.sToC ++ [f] else s.fwd.sToC }
    disp := if s.links.c.link = .up ∧ 8 ≤ s.fwd.sToC.length then s.disp.raise .forwardOverrun else s.disp } := by
  unfold offerSToC Config.sToCFrames
  by_cases hup : s.links.c.link = .up
  · rw [if_pos ((s.isUp_iff .c).mpr hup)]
    by_cases hroom : s.fwd.sToC.length < 8
    · rw [if_pos hroom, if_pos ⟨hup, hroom⟩, if_neg (fun h => Nat.not_le_of_lt hroom h.2)]
      rfl
    · rw [if_neg hroom, if_neg (fun h => hroom h.2), if_pos ⟨hup, Nat.not_lt.mp hroom⟩]
      rfl
  · rw [if_neg (fun h => hup ((s.isUp_iff .c).mp h)), if_neg (fun h => hup h.1), if_neg (fun h => hup h.1)]

theorem offerCToS_eq (s : State) (f : List Byte) : s.offerCToS f = { s with
    fwd := { s.fwd with
      cToS := if s.settings.portSEnable = true ∧ s.fwd.cToS.length < 4 then s.fwd.cToS ++ [f] else s.fwd.cToS }
    disp := if s.settings.portSEnable = true ∧ 4 ≤ s.fwd.cToS.length then s.disp.raise .forwardOverrun else s.disp } := by
  unfold offerCToS Config.cToSFrames
  by_cases hon : s.settings.portSEnable = true
  · rw [if_pos hon]
    by_cases hroom : s.fwd.cToS.length < 4
    · rw [if_pos hroom, if_pos ⟨hon, hroom⟩, if_neg (fun h => Nat.not_le_of_lt hroom h.2)]
      rfl
    · rw [if_neg hroom, if_neg (fun h => hroom h.2), if_pos ⟨hon, Nat.not_lt.mp hroom⟩]
      rfl
  · rw [if_neg hon, if_neg (fun h => hon h.1), if_neg (fun h => hon h.1)]

/-- Two kinds raised one after the other, each on its condition (R126). -/
theorem pending_raise_raise (d : Dispatcher) (a b : Prop) [Decidable a] [Decidable b] (j k x : EventKind) :
    KindSet.has ((if b then (if a then d.raise j else d).raise k else if a then d.raise j else d).pending) x = true ↔
      (KindSet.has d.pending x = true ∨ (x = j ∧ a) ∨ (x = k ∧ b)) := by
  by_cases ha : a <;> by_cases hb : b <;> simp [ha, hb, Dispatcher.raise, KindSet.has_set, or_assoc, @eq_comm _ x j, @eq_comm _ x k]

theorem disp_raise_raise (d : Dispatcher) (a b : Prop) [Decidable a] [Decidable b] (j k : EventKind) :
    { (if b then (if a then d.raise j else d).raise k else if a then d.raise j else d) with pending := d.pending } = d := by
  by_cases ha : a <;> by_cases hb : b <;> simp [ha, hb, Dispatcher.raise]

/-! ## What Port S hands on without analysis (R21, R22) -/

/-- A frame that is no well-formed SAMPLE of a node is offered, MALFORMED_FRAME raised where it is malformed. -/
theorem classifyS_unanalysed (s : State) (f : List Byte)
    (hnot : ¬ ((malformedHeader f = false ∧ kindByte f = kindSample ∧ nodeOf (sourceByte f) ≠ none) ∧
      sampleWellFormed (payload f) = true)) :
    classifyS f s =
      if malformedHeader f = true ∨ ((malformedHeader f = false ∧ kindByte f = kindSample ∧ nodeOf (sourceByte f) ≠ none) ∧
        sampleWellFormed (payload f) = false) then (s.offerSToC f).raise .malformedFrame
      else s.offerSToC f := by
  unfold classifyS
  by_cases hm : malformedHeader f = true
  · rw [if_pos hm, if_pos (.inl hm)]
  · have hm' : malformedHeader f = false := Bool.eq_false_of_not_eq_true hm
    rw [if_neg hm]
    split
    next n hk hn =>
      have hsample : malformedHeader f = false ∧ kindByte f = kindSample ∧ nodeOf (sourceByte f) ≠ none :=
        ⟨hm', of_decide_eq_true hk, by rw [hn]; simp⟩
      have hbad : sampleWellFormed (payload f) = false := Bool.eq_false_of_not_eq_true (fun h => hnot ⟨hsample, h⟩)
      rw [hbad, if_neg Bool.false_ne_true, if_pos (Or.inr ⟨hsample, rfl⟩)]
    next hother =>
      refine (if_neg ?_).symm
      rintro (h | ⟨⟨-, hk, hn⟩, -⟩)
      · exact hm h
      · obtain ⟨n, hn⟩ := Option.ne_none_iff_exists'.mp hn
        exact hother n (decide_eq_true hk) hn

end State

/-- Settles O18: the frame is heard and offered, and the flags are raised one after the other. -/
theorem portSForwardsUnanalysed : Obligations.PortSForwardsUnanalysed := by
  intro s f hhears hgood isSample malformed hkind hnot
  refine ⟨_, congrArg Host.Outcome.next ((State.frameArrives_classified hgood hkind s .s _).trans
    (State.received_hearsOnS hhears _)), ?_⟩
  have hc : s.links.heardOnS.c = s.links.c := by unfold Links.heardOnS; split <;> rfl
  have hstate : State.classifyS f { s with links := s.links.heardOnS } = { s with
      links := s.links.heardOnS
      fwd := { s.fwd with
        sToC := if s.links.c.link = .up ∧ s.fwd.sToC.length < 8 then s.fwd.sToC ++ [f] else s.fwd.sToC }
      disp := if malformed then
          (if s.links.c.link = .up ∧ 8 ≤ s.fwd.sToC.length then s.disp.raise .forwardOverrun else s.disp).raise .malformedFrame
        else if s.links.c.link = .up ∧ 8 ≤ s.fwd.sToC.length then s.disp.raise .forwardOverrun else s.disp } := by
    rw [State.classifyS_unanalysed _ f hnot, State.offerSToC_eq]
    simp only [hc]
    by_cases h : malformed
    · rw [if_pos h]
      simp only [if_pos h]
      rfl
    · rw [if_neg h]
      simp only [if_neg h]
  rw [hstate]
  exact ⟨rfl, rfl, rfl, State.disp_raise_raise _ _ _ _ _, fun k => State.pending_raise_raise _ _ _ _ _ k⟩

end Sys2Proof.Machine
end

section
/-! Sample frames at the Source Tracker, and the frames of Port C (R19, R23, R24, R28, R35 to R39, R48 to R51). -/

namespace Sys2Proof.Machine

/-! ## Judging a sample frame (R35 to R39) -/

theorem clampFull_cases (v : Int) : (v < -32767 → clampFull v = -32767) ∧ (32767 < v → clampFull v = 32767) ∧
    (-32767 ≤ v → v ≤ 32767 → clampFull v = v) := by
  simp only [clampFull, Config.fullScale]
  omega

theorem SourceEntry.judge_of_not_tracking {e : SourceEntry} (h : e.state ≠ .tracking) (n : Byte) : e.judge n = .inOrder := by
  unfold SourceEntry.judge
  split
  next hstate _ => exact absurd hstate h
  next => rfl

theorem SourceEntry.judge_tracking {e : SourceEntry} {x : Byte} (h : e.state = .tracking) (hx : e.expected = some x)
    (n : Byte) : e.judge n = if (n - x).toNat = 0 then .inOrder else if (n - x).toNat ≤ 127 then .gap (n - x).toNat
      else if (n - x).toNat = 255 then .duplicate else .outOfOrder := by
  rw [SourceEntry.judge, h, hx]

namespace State

variable {s t : State}

/-- The samples of a frame depend on the banks and on what the groups read (R48). -/
theorem deliveries_congr (hm : t.mgmt = s.mgmt) (ha : t.ana = s.ana) (n : Node) (p : List Byte) :
    t.deliveries n p = s.deliveries n p := by
  have hreads : ∀ g : Group, t.readsStaging g = s.readsStaging g := fun g => by
    simp only [readsStaging, isStagingGen, group, hm, ha]
  simp only [deliveries, deliverers, hm, hreads]

/-- What the tracker does with a frame, by its judgement (R36, R37). -/
theorem track_eq (s : State) (n : Node) (seq : Byte) (p : List Byte) : s.track n seq p =
    match s.sources[n].judge seq with
    | .inOrder => (s.setSource n (s.sources[n].accept seq)).deliver n p
    | .gap g => ((s.setSource n { s.sources[n].accept seq with missed := satAdd s.sources[n].missed g }).raiseDetail
        .sourceGap (.sourceGap n seq g)).deliver n p
    | .duplicate => s.setSource n { s.sources[n] with duplicates := satAdd s.sources[n].duplicates 1 }
    | .outOfOrder => s.setSource n { s.sources[n] with outOfOrder := satAdd s.sources[n].outOfOrder 1 } := by
  unfold track SourceEntry.judged
  cases s.sources[n].judge seq <;> rfl

/-- A well-formed SAMPLE frame of a node is forwarded and tracked (R21). -/
theorem classifyS_sample (s : State) {f : List Byte} {n : Node} (hheader : malformedHeader f = false)
    (hkind : kindByte f = kindSample) (hnode : nodeOf (sourceByte f) = some n)
    (hform : sampleWellFormed (payload f) = true) :
    classifyS f s = (s.offerSToC f).track n (seqByte f) (payload f) := by
  unfold classifyS
  rw [if_neg (by rw [hheader]; exact Bool.false_ne_true), decide_eq_true hkind, hnode]
  exact if_pos hform

end State

/-- Settles O19: the frame is offered, judged, and what an accepted one delivers is taken sample by sample. -/
theorem sampleFrameIsJudged : Obligations.SampleFrameIsJudged := by
  refine ⟨fun e r => clampFull_cases _, fun s f n hhears hgood hheader hkind hnode hform => ?_⟩
  intro e p slots switched entries samples heard judged delivered adopted does
  have hcontrol : kindByte f ≠ kindLinkControl := by rw [hkind]; decide
  have hc : s.links.heardOnS.c = s.links.c := by unfold Links.heardOnS; split <;> rfl
  have hdoes : does = .next (heard.track n (seqByte f) p) := by
    refine congrArg Host.Outcome.next ((State.frameArrives_classified hgood (.inr hcontrol) s .s _).trans
      ((State.received_hearsOnS hhears _).trans ((State.classifyS_sample _ hheader hkind hnode hform).trans ?_)))
    rw [State.offerSToC_eq]
    simp only [hc]
    rfl
  have hsamples : ∀ t : State, t.mgmt = s.mgmt → t.ana = s.ana → t.deliver n p = delivered t := fun t hm ha => by
    have hswitched : ∀ g : Group, s.readsStaging g = decide (switched g) := fun g => by
      rw [Bool.eq_iff_iff, s.readsStaging_iff, decide_eq_true_iff]
      show _ ↔ s.mgmt.commit.map Commit.stagingGen = some (s.group g).gen
      rw [Option.map_eq_some_iff]
      exact exists_congr (fun c => and_congr_right (fun _ => eq_comm))
    have hlist : s.deliveries n p = samples := by
      simp only [State.deliveries, State.deliverers, hswitched, ← decide_not]
      rfl
    rw [State.deliver, State.deliveries_congr hm ha, hlist]
    rfl
  rw [hdoes, State.track_eq]
  have hsource : heard.sources[n] = e := rfl
  rw [hsource]
  have htaken : ∀ x : SourceEntry, (heard.setSource n x).deliver n p = delivered (judged x) := fun x => hsamples _ rfl rfl
  refine ⟨fun hstate => ?_, fun x hstate hx => ?_⟩
  · rw [SourceEntry.judge_of_not_tracking hstate]
    exact congrArg _ (htaken _)
  intro g
  refine ⟨fun hg => ?_, fun hlow hhigh => ?_, fun hg => ?_, fun hlow hhigh => ?_⟩
  · rw [SourceEntry.judge_tracking hstate hx, if_pos hg]
    exact congrArg _ (htaken _)
  · rw [SourceEntry.judge_tracking hstate hx, if_neg (Nat.ne_of_gt hlow), if_pos hhigh]
    exact congrArg _ (hsamples _ rfl rfl)
  · have hg' : (seqByte f - x).toNat = 255 := hg
    rw [SourceEntry.judge_tracking hstate hx, hg']
    rfl
  · have hlow' : 128 ≤ (seqByte f - x).toNat := hlow
    have hhigh' : (seqByte f - x).toNat ≤ 254 := hhigh
    rw [SourceEntry.judge_tracking hstate hx, if_neg (by omega), if_neg (by omega), if_neg (by omega)]
    rfl

/-! ## Port C (R19, R23, R24) -/

theorem length_payload_of_wellFormed {f : List Byte} (h : malformedHeader f = false) : (payload f).length ≤ 240 := by
  simp only [malformedHeader, Bool.or_eq_false_iff, decide_eq_false_iff_not] at h
  obtain ⟨⟨⟨⟨hlen, hfield⟩, hsame⟩, -⟩, -⟩ := h
  simp only [payload, List.length_take, List.length_drop]
  omega

namespace State

/-- A frame of two bytes of payload or more is a request by its parts (R24). -/
theorem giveFrame_congr (s : State) {f g : List Byte} (hp : payload g = payload f)
    (ha : addrOf (sourceByte g) = addrOf (sourceByte f)) : s.giveFrame g = s.giveFrame f := by
  unfold giveFrame
  rw [hp, ha]

theorem giveFrame_malformed (s : State) {f : List Byte} (h : (payload f).length < 2 ∨ addrOf (sourceByte f) = 63) :
    s.giveFrame f = s.raise .malformedFrame := by
  unfold giveFrame
  split
  next code seq params hp =>
    rw [hp] at h
    rw [giveRequest, if_pos (h.resolve_left (by simp))]
  next => rfl

/-- A REQUEST frame addressed to the part is given to the Management Unit (R23). -/
theorem classifyC_request {s : State} {f : List Byte} (hheader : malformedHeader f = false) (hkind : kindByte f = kindRequest)
    (hdest : addrOf (destByte f) = s.partAddr) : classifyC f s = s.giveFrame f := by
  unfold classifyC
  rw [if_neg (by rw [hheader]; exact Bool.false_ne_true), if_pos hkind, if_pos hdest]

/-- Of a REQUEST frame for 63 the copy is offered first (R23, log 24). -/
theorem classifyC_broadcast {s : State} {f : List Byte} (hheader : malformedHeader f = false)
    (hkind : kindByte f = kindRequest) (hpart : addrOf (destByte f) ≠ s.partAddr) (hall : addrOf (destByte f) = 63) :
    classifyC f s = (s.offerCToS f).giveFrame f := by
  unfold classifyC
  rw [if_neg (by rw [hheader]; exact Bool.false_ne_true), if_pos hkind, if_neg hpart, if_pos hall]

/-- A frame that is no request the part takes is offered unless it is for the part alone (R23). -/
theorem classifyC_untaken {s : State} {f : List Byte}
    (h : ¬ (malformedHeader f = false ∧ kindByte f = kindRequest ∧ (addrOf (destByte f) = s.partAddr ∨ addrOf (destByte f) = 63))) :
    classifyC f s = if malformedHeader f = true then (s.offerCToS f).raise .malformedFrame
      else if addrOf (destByte f) = s.partAddr then s else s.offerCToS f := by
  unfold classifyC
  split
  · rfl
  next hm =>
    have hm' : malformedHeader f = false := Bool.eq_false_of_not_eq_true hm
    split
    next hk =>
      have hpart : addrOf (destByte f) ≠ s.partAddr := fun e => h ⟨hm', hk, .inl e⟩
      have hall : addrOf (destByte f) ≠ 63 := fun e => h ⟨hm', hk, .inr e⟩
      rw [if_neg hpart, if_neg hall, if_neg hpart]
    next => rfl

/-- A built REQUEST frame addressed to the part is taken by its parts (R18, R19, R23). -/
theorem classifyC_built (s : State) (src : Addr) (body : List Byte) (hlen : body.length ≤ 240) :
    classifyC (buildFrame kindRequest s.partAddr src 0 body) s = s.giveFrame (buildFrame kindRequest s.partAddr src 0 body) := by
  refine classifyC_request ?_ (kindByte_buildFrame _ _ _ _ _) ?_
  · rw [malformedHeader_buildFrame]
    exact decide_eq_false (Nat.not_lt.mpr hlen)
  · rw [destByte_buildFrame, addrOf_addrByte]

theorem frameArrives_built (s : State) (a src : Addr) (body : List Byte) (classify : List Byte → State → State) :
    s.frameArrives .c (buildFrame kindRequest a src 0 body) classify =
      s.received .c (classify (buildFrame kindRequest a src 0 body)) :=
  frameArrives_classified (goodCheck_buildFrame _ _ _ _ _) (.inr (by rw [kindByte_buildFrame]; decide)) s .c classify

/-- What a port's receiver does with a frame turns only on the handler in states with the part's address. -/
theorem received_congr {s : State} {p : Port} {f g : State → State} (h : ∀ t : State, t.partAddr = s.partAddr → f t = g t) :
    s.received p f = s.received p g := by
  have hup : (s.modPort p PortState.goodInUp).partAddr = s.partAddr := by cases p <;> rfl
  have hentered : (s.enterUp p).partAddr = s.partAddr := by cases p <;> rfl
  unfold State.received
  simp only [h _ hup, h _ hentered]

end State

/-- Settles O21: a built frame is good, its header is well formed unless its payload is too long, and its fields read back. -/
theorem requestRowIsItsFrame : Obligations.RequestRowIsItsFrame := by
  intro i r s hr
  rw [exec_request hr]
  refine congrArg Host.Outcome.next ((State.received_congr (fun t ht => ?_)).trans (s.frameArrives_built _ _ _ _).symm)
  rw [← ht]
  by_cases hlong : 238 < r.params.length
  · have hmalformed : malformedHeader (t.requestFrame r) = true := by
      rw [State.requestFrame, malformedHeader_buildFrame]
      exact decide_eq_true (by simp only [List.length_cons]; omega)
    rw [State.requestHandled, if_pos hlong]
    exact (if_pos hmalformed).symm
  · rw [State.classifyC_built _ _ _ (by simp only [List.length_cons]; omega), State.giveFrame, payload_buildFrame,
      State.requestHandled, if_neg hlong, sourceByte_buildFrame, addrOf_addrByte]

/-- Settles O20: offered, discarded or taken, one case of the classifier after another. -/
theorem portCForwardsOrDiscards : Obligations.PortCForwardsOrDiscards := by
  intro s f hhears hgood toPart taken offered does
  have hheard : (malformedHeader f = true ∨ kindByte f ≠ kindLinkControl) →
      does = .next (State.classifyC f { s with links := s.links.heardOnC }) := fun hkind =>
    congrArg Host.Outcome.next ((State.frameArrives_classified hgood hkind s .c _).trans (s.received_hears hhears _))
  refine ⟨fun hkind hnot => ⟨_, hheard hkind, ?_⟩, fun htaken => ?_⟩
  · have hstate : State.classifyC f { s with links := s.links.heardOnC } = { s with
        links := s.links.heardOnC
        fwd := if offered then { s.fwd with
          cToS := if s.settings.portSEnable = true ∧ s.fwd.cToS.length < 4 then s.fwd.cToS ++ [f] else s.fwd.cToS } else s.fwd
        disp := if malformedHeader f = true then
            (if offered ∧ s.settings.portSEnable = true ∧ 4 ≤ s.fwd.cToS.length then s.disp.raise .forwardOverrun
              else s.disp).raise .malformedFrame
          else if offered ∧ s.settings.portSEnable = true ∧ 4 ≤ s.fwd.cToS.length then s.disp.raise .forwardOverrun
            else s.disp } := by
      refine (State.classifyC_untaken (s := { s with links := s.links.heardOnC }) hnot).trans ?_
      by_cases hm : malformedHeader f = true
      · have hoff : offered := .inl hm
        rw [if_pos hm, State.offerCToS_eq]
        simp only [hm, hoff, true_and, if_true]
        rfl
      · rw [if_neg hm]
        by_cases hpart : toPart
        · have hoff : ¬ offered := fun h => h.elim hm (fun h => h hpart)
          refine (if_pos hpart).trans ?_
          simp only [hm, hoff, false_and, if_false, Bool.false_eq_true]
        · have hoff : offered := .inr hpart
          refine (if_neg hpart).trans ?_
          rw [State.offerCToS_eq]
          simp only [hm, hoff, true_and, if_true, if_false, Bool.false_eq_true]
          rfl
    rw [hstate]
    refine ⟨rfl, rfl, fun h => if_pos h, fun h => if_neg h, State.disp_raise_raise _ _ _ _ _, fun k => ?_⟩
    exact State.pending_raise_raise _ _ _ _ _ k
  · intro copied
    obtain ⟨hheader, hkind, hdest⟩ := htaken
    have hkind' : kindByte f ≠ kindLinkControl := by rw [hkind]; decide
    have hgiven : does = .next (State.giveFrame { copied with links := s.links.heardOnC } f) := by
      refine (hheard (.inr hkind')).trans (congrArg Host.Outcome.next ?_)
      by_cases hpart : toPart
      · have hcopied : copied = s := by
          simp only [copied, hpart, not_true_eq_false, false_and, if_false]
        rw [hcopied]
        exact State.classifyC_request hheader hkind hpart
      · have hcopied : { copied with links := s.links.heardOnC } = State.offerCToS { s with links := s.links.heardOnC } f := by
          rw [State.offerCToS_eq]
          simp only [copied, hpart, not_false_eq_true, true_and]
          rfl
        rw [hcopied]
        exact State.classifyC_broadcast hheader hkind hpart (hdest.resolve_left hpart)
    refine ⟨fun hmalformed => ?_, fun _ _ => ?_⟩
    · rw [hgiven, State.giveFrame_malformed _ hmalformed]
      rfl
    · rw [hgiven]
      refine congrArg Host.Outcome.next (Eq.symm ?_)
      refine (State.frameArrives_built copied _ _ _ _).trans ((copied.received_hears hhears _).trans ?_)
      refine (State.classifyC_built { copied with links := s.links.heardOnC } _ _ (length_payload_of_wellFormed hheader)).trans ?_
      exact State.giveFrame_congr _ (payload_buildFrame _ _ _ _ _) (by rw [sourceByte_buildFrame, addrOf_addrByte])

end Sys2Proof.Machine
end

section
/-! Frame ends (R1, R10, R17, R20, R29 to R32): what each port hands to its transmitter, and the resets that follow the
end of a reply. -/

namespace Sys2Proof.Machine
namespace State

variable {s : State}

/-! ## Port C -/

/-- The end of a frame that no reset waits for (R31). -/
theorem endFrameC_next {f : TxFrame} (h : s.links.c.tx = some f) (hmark : f.sort ≠ .mark) (hreply : f.sort ≠ .report true) :
    s.endFrameC = s.nextC := by
  have htx : (s.port .c).tx = some f := h
  unfold endFrameC
  rw [htx]
  dsimp only
  split
  next e => exact absurd e hmark
  next e => exact absurd e hreply
  all_goals rfl

theorem nextC_grants (hup : s.links.c.link = .up) (howed : s.links.presenceOwed = false) (hmark : s.links.markReset = none) :
    s.nextC = s.grant := by
  rw [nextC, (s.isUp_iff .c).mpr hup, howed, hmark]
  rfl

/-- The source a grant goes to, by the one granted last (R31). -/
theorem granted_eq (s : State) : s.granted = match s.fwd.lastGranted with
    | .forward => if s.ready .report then some .report else if s.ready .event then some .event
      else if s.ready .forward then some .forward else none
    | .report => if s.ready .event then some .event else if s.ready .forward then some .forward
      else if s.ready .report then some .report else none
    | .event => if s.ready .forward then some .forward else if s.ready .report then some .report
      else if s.ready .event then some .event else none := by
  unfold granted
  cases s.fwd.lastGranted <;> cases hf : s.ready .forward <;> cases hr : s.ready .report <;> cases he : s.ready .event <;>
    simp [grantOrder, hf, hr, he]

theorem ready_forward (s : State) : s.ready .forward = true ↔ s.fwd.sToC ≠ [] := by
  cases h : s.fwd.sToC <;> simp [ready, h]

theorem ready_report (s : State) : s.ready .report = true ↔ s.rep.records ≠ [] := by
  cases h : s.rep.records <;> simp [ready, h]

theorem ready_event (s : State) : s.ready .event = true ↔ s.disp.slot ≠ none := Option.isSome_iff_ne_none

/-- The forward buffer's turn (R31). -/
theorem granted_forward (h : s.fwd.sToC ≠ []) (hturn : s.fwd.lastGranted = .event ∨
    (s.fwd.lastGranted = .report ∧ ¬ s.disp.slot ≠ none) ∨
    (s.fwd.lastGranted = .forward ∧ ¬ s.rep.records ≠ [] ∧ ¬ s.disp.slot ≠ none)) : s.granted = some .forward := by
  rw [granted_eq]
  simp only [s.ready_forward, s.ready_report, s.ready_event]
  obtain e | ⟨e, hn⟩ | ⟨e, hn, hm⟩ := hturn <;> rw [e]
  · exact if_pos h
  · exact (if_neg hn).trans (if_pos h)
  · exact (if_neg hn).trans ((if_neg hm).trans (if_pos h))

/-- The Report Queue's turn (R31). -/
theorem granted_report (h : s.rep.records ≠ []) (hturn : s.fwd.lastGranted = .forward ∨
    (s.fwd.lastGranted = .event ∧ ¬ s.fwd.sToC ≠ []) ∨
    (s.fwd.lastGranted = .report ∧ ¬ s.disp.slot ≠ none ∧ ¬ s.fwd.sToC ≠ [])) : s.granted = some .report := by
  rw [granted_eq]
  simp only [s.ready_forward, s.ready_report, s.ready_event]
  obtain e | ⟨e, hn⟩ | ⟨e, hn, hm⟩ := hturn <;> rw [e]
  · exact if_pos h
  · exact (if_neg hn).trans (if_pos h)
  · exact (if_neg hn).trans ((if_neg hm).trans (if_pos h))

/-- The output slot's turn (R31). -/
theorem granted_event (h : s.disp.slot ≠ none) (hturn : s.fwd.lastGranted = .report ∨
    (s.fwd.lastGranted = .forward ∧ ¬ s.rep.records ≠ []) ∨
    (s.fwd.lastGranted = .event ∧ ¬ s.fwd.sToC ≠ [] ∧ ¬ s.rep.records ≠ [])) : s.granted = some .event := by
  rw [granted_eq]
  simp only [s.ready_forward, s.ready_report, s.ready_event]
  obtain e | ⟨e, hn⟩ | ⟨e, hn, hm⟩ := hturn <;> rw [e]
  · exact if_pos h
  · exact (if_neg hn).trans (if_pos h)
  · exact (if_neg hn).trans ((if_neg hm).trans (if_pos h))

end State

/-- Settles O22: outside UP the port's own frame, in UP the PRESENCE owed, and while a mark's reset waits idle fill. -/
theorem portCSendsPresenceFirst : Obligations.PortCSendsPresenceFirst := by
  intro s f htx hmark hreply
  have hnext : exec .portCFrameEnd s = .next s.nextC := congrArg Host.Outcome.next (State.endFrameC_next htx hmark hreply)
  refine ⟨fun hup howed => ?_, fun hdown => ?_, fun hup howed hreset => ?_⟩
  · rw [hnext, State.nextC, (s.isUp_iff .c).mpr hup, howed]
    rfl
  · rw [hnext, State.nextC, (s.isUp_eq_false_iff .c).mpr hdown]
    refine congrArg Host.Outcome.next ?_
    show s.sendControl .c = _
    simp only [State.sendControl, State.modPort, State.port, PortState.sendOwn, PortState.ownControl]
    cases hlink : s.links.c.link with
    | up => exact absurd hlink hdown
    | _ => rfl
  · have howned : s.links.c.ownControl = some .up := by rw [PortState.ownControl, hup]
    rw [hnext, State.nextC, (s.isUp_iff .c).mpr hup, howed, Option.isSome_iff_ne_none.mpr hreset]
    refine congrArg Host.Outcome.next ?_
    show s.sendControl .c = _
    simp only [State.sendControl, State.modPort, State.port, PortState.sendOwn, howned]
    rfl

/-- Settles O23: the rotation says whose turn it is, and a grant takes that source's head. -/
theorem arbiterGrantsInRotation : Obligations.ArbiterGrantsInRotation := by
  intro s f htx hmark hreply hup howed hreset forward report event last reportsTurn sends reports
  have hgrant : exec .portCFrameEnd s = .next s.grant :=
    congrArg Host.Outcome.next ((State.endFrameC_next htx hmark hreply).trans (State.nextC_grants hup howed hreset))
  have hreport : ∀ (x : Held) (rest : List Held), s.rep.records = x :: rest → reportsTurn →
      exec .portCFrameEnd s = .next (reports x rest).admitWaiting := fun x rest hx hturn => by
    rw [hgrant, State.grant, State.granted_report (by rw [hx]; simp) hturn]
    refine congrArg Host.Outcome.next ?_
    show s.grantReport = _
    unfold State.grantReport
    rw [hx]
    dsimp only
    unfold State.dropHead
    refine congrArg State.admitWaiting ?_
    have hrecords : ((s.setFwd { s.fwd with lastGranted := .report }).handOut (.report x.record.isResetPartDone) kindReport
      x.dest x.record.encode).rep = s.rep := rfl
    rw [hrecords, hx]
    rfl
  refine ⟨fun x rest hx hturn => ?_, fun x rest hx hwaiting hturn => ?_, fun x hx hturn => ?_, fun hf hr he => ?_,
    fun x rest w ws hturn hx hw => ?_⟩
  · rw [hgrant, State.grant, State.granted_forward (by rw [hx]; simp) hturn]
    refine congrArg Host.Outcome.next ?_
    show s.grantForward = _
    unfold State.grantForward
    rw [hx]
    rfl
  · rw [hreport x rest hx hturn]
    refine congrArg Host.Outcome.next ?_
    have hnone : (reports x rest).rep.waiting = [] := hwaiting
    unfold State.admitWaiting
    rw [hnone]
  · rw [hgrant, State.grant, State.granted_event (by rw [hx]; simp) hturn]
    refine congrArg Host.Outcome.next ?_
    show s.grantEvent = _
    unfold State.grantEvent
    rw [hx]
    rfl
  · have hready : ∀ x : Source, s.ready x = false := fun x => by
      cases x
      · exact Bool.eq_false_of_not_eq_true (fun h => hf (s.ready_forward.mp h))
      · exact Bool.eq_false_of_not_eq_true (fun h => hr (s.ready_report.mp h))
      · exact Bool.eq_false_of_not_eq_true (fun h => he (s.ready_event.mp h))
    have hnone : s.granted = none := List.find?_eq_none.mpr (fun x _ => by simp [hready])
    have howned : s.links.c.ownControl = some .up := by rw [PortState.ownControl, hup]
    rw [hgrant, State.grant, hnone]
    refine congrArg Host.Outcome.next ?_
    show s.sendControl .c = _
    simp only [State.sendControl, State.modPort, State.port, PortState.sendOwn, howned]
    rfl
  · rw [hreport x rest hx hturn]
    refine congrArg Host.Outcome.next ?_
    have hwaiting : (reports x rest).rep.waiting = w :: ws := hw
    unfold State.admitWaiting
    rw [hwaiting]
    cases w <;> rfl

/-! ## Port S -/

theorem State.endFrameS_next {s : State} {f : TxFrame} (h : s.links.s.tx = some f) (hmark : f.sort ≠ .mark) :
    s.endFrameS = s.nextS := by
  have htx : (s.port .s).tx = some f := h
  unfold endFrameS
  rw [htx]
  exact if_neg (by simpa using hmark)

/-- Settles O24: the head of the buffer in UP with no mark's reset pending, and the port's own frame otherwise. -/
theorem portSDrainsItsBuffer : Obligations.PortSDrainsItsBuffer := by
  intro s f htx hmark sends control
  have hnext : exec .portSFrameEnd s = .next s.nextS := congrArg Host.Outcome.next (State.endFrameS_next htx hmark)
  have hown : s.sendControl .s = { s with links := sends (s.links.s.ownControl.map
      (fun v => ⟨.control, buildFrame 0x01 63 s.partAddr 0 [v.code]⟩)) } := rfl
  have hcontrol : ∀ c : Option Control, s.links.s.ownControl = c → s.nextS = s.sendControl .s →
      exec .portSFrameEnd s = .next { s with links := sends (c.map
        (fun v => ⟨.control, buildFrame 0x01 63 s.partAddr 0 [v.code]⟩)) } := fun c hc h => by
    rw [hnext, h, hown, hc]
  have hdown : s.links.s.link ≠ .up → s.nextS = s.sendControl .s := fun h => by
    rw [State.nextS, (s.isUp_eq_false_iff .s).mpr h]
    rfl
  refine ⟨fun x rest hup hreset hx => ?_, fun hup hstop => ?_, fun h => ?_, fun h => ?_, fun h => ?_, fun h => ?_⟩
  · rw [hnext, State.nextS, (s.isUp_iff .s).mpr hup, hreset, hx]
    rfl
  · refine hcontrol (some .up) (by rw [PortState.ownControl, hup]) ?_
    obtain hreset | hempty := hstop
    · rw [State.nextS, (s.isUp_iff .s).mpr hup, Option.isNone_eq_false_iff.mpr (Option.isSome_iff_ne_none.mpr hreset)]
      rfl
    · exact State.nextS_of_empty hempty
  · exact hcontrol (some .seek) (by rw [PortState.ownControl, h]) (hdown (by rw [h]; decide))
  · exact hcontrol (some .align) (by rw [PortState.ownControl, h]) (hdown (by rw [h]; decide))
  · exact hcontrol (some .confirm) (by rw [PortState.ownControl, h]) (hdown (by rw [h]; decide))
  · exact hcontrol none (by rw [PortState.ownControl, h]) (hdown (by rw [h]; decide))

/-! ## RESET_PART (R17, R192) -/

/-- Settles O25: Port C is UP when the request acts, and the reply in transmission is what the reset waits for. -/
theorem resetPartAnswersThenResets : Obligations.ResetPartAnswersThenResets := by
  refine ⟨fun s source seq hs hsource => ?_, fun s hdeferred => ?_⟩
  · rw [exec_taken rfl hs hsource (Nat.zero_le _) rfl]
    have hup : (s.taken ⟨source, seq, 0x0D, []⟩).isUp .c = true := by
      show (s.links.heardOnC.c.link == .up) = true
      unfold Links.heardOnC
      split
      next h => exact beq_iff_eq.mpr h
      next => rfl
    refine congrArg Host.Outcome.next ?_
    show doResetPart _ _ = _
    rw [doResetPart, hup, Bool.not_true, Bool.and_false, if_neg Bool.false_ne_true]
    exact State.answer_taken s _ _ _
  intro reset
  refine ⟨fun b htx => ?_, fun hnot => ?_⟩
  · have hsends : s.links.c.sendsResetPart = true := by rw [PortState.sendsResetPart, htx]; rfl
    have htaken : ∀ t : State, t.pending = s.pending → t.pins.straps = s.pins.straps → t.links.mask = s.links.mask →
        t.links.refusalDeferred = s.links.refusalDeferred → t.takeFullReset .resetRequest = reset :=
      fun t hp hstraps hm hd => by
        rw [State.takeFullReset, hd, hdeferred, hp, hstraps, hm]
        rfl
    have hleft : ∀ (x : PortState) (f : PortState → PortState), x.sendsResetPart = true →
        (((s.setPort .c x).leaveUp .c).modPort .c f).afterLeaving ((s.setPort .c x).port .c).sendsResetPart = reset :=
      fun x f hx => (if_pos hx).trans (htaken _ rfl rfl rfl rfl)
    refine ⟨congrArg Host.Outcome.next ?_, congrArg Host.Outcome.next ?_, fun hheld hup => ⟨congrArg Host.Outcome.next ?_,
      congrArg Host.Outcome.next ?_, fun hrun => congrArg Host.Outcome.next ?_⟩⟩
    · exact (if_pos hsends).trans (htaken s rfl rfl rfl rfl)
    · have hport : (s.port .c).tx = some ⟨.report true, b⟩ := htx
      unfold State.endFrameC
      rw [hport]
      exact htaken s rfl rfl rfl rfl
    · rw [State.signalLost, s.isHeld_eq_false_iff.mpr hheld, (s.isUp_iff .c).mpr hup]
      exact hleft s.links.c _ hsends
    · have hgood : s.phaseArrives .c .seek = reset := by
        have hup' : (s.port .c).link = .up := hup
        unfold State.phaseArrives
        rw [hup']
        show (s.setPort .c (s.port .c).goodInUp).partnerSeeks .c = reset
        rw [PortState.goodInUp_up hup']
        exact hleft { s.links.c with badRun := 0 } _ hsends
      rw [State.linkControl_hears hheld (by simp)]
      exact hgood
    · refine (State.badCheck_hears hheld (by simp)).trans ((if_pos hup).trans ((if_pos hrun).trans ?_))
      exact hleft _ _ hsends
  · exact congrArg Host.Outcome.next (if_neg (fun h =>
      Bool.false_ne_true ((State.sendsResetPart_eq_false hnot).symm.trans h)))

end Sys2Proof.Machine
end

section
/-! Limit entries, signatures, the selection of events, and the Report Queue's markers (R95, R96, R114, R136 to R142, R152,
R155, R156). -/

namespace Sys2Proof.Machine

/-! ## Limit entries (R95, R96) -/

theorem LimitEntry.classify_above {e : LimitEntry} (h : e.direction = .above) (v : Int) : e.classify v =
    if (e.limit : Int) < v then .over else if v ≤ ((e.limit - e.hysteresis : Nat) : Int) then .under else .band := by
  rw [LimitEntry.classify, h]

theorem LimitEntry.classify_below {e : LimitEntry} (h : e.direction = .below) (v : Int) : e.classify v =
    if v < (e.limit : Int) then .over
    else if ((min 65535 (e.limit + e.hysteresis) : Nat) : Int) ≤ v then .under else .band := by
  rw [LimitEntry.classify, h]
  rfl

/-- A move keeps RISING below the raise count and FALLING below the clear count (R96). -/
theorem LimitEntry.move_inRange (e : LimitEntry) (hraise : 1 ≤ e.raiseCount) (hclear : 1 ≤ e.clearCount) (st : LimitState)
    (c : LimitClass) (hr : ∀ j : Nat, st = .rising j → 1 ≤ j ∧ j < e.raiseCount)
    (hf : ∀ j : Nat, st = .falling j → 1 ≤ j ∧ j < e.clearCount) :
    (∀ j : Nat, e.move st c = .rising j → 1 ≤ j ∧ j < e.raiseCount) ∧
      (∀ j : Nat, e.move st c = .falling j → 1 ≤ j ∧ j < e.clearCount) := by
  cases st with
  | clear =>
    cases c <;> simp only [LimitEntry.move, reduceCtorEq, false_imp_iff, implies_true, and_true]
    split <;> simp
    omega
  | rising k =>
    have hk := hr k rfl
    cases c <;> simp only [LimitEntry.move, reduceCtorEq, false_imp_iff, implies_true, and_true]
    split <;> simp
    omega
  | exceeded =>
    cases c <;> simp only [LimitEntry.move, reduceCtorEq, false_imp_iff, implies_true, and_true]
    split <;> simp
    omega
  | falling k =>
    have hk := hf k rfl
    cases c <;> simp only [LimitEntry.move, reduceCtorEq, false_imp_iff, implies_true, and_true, true_and,
      LimitState.falling.injEq]
    · rintro j rfl
      exact hk
    · split <;> simp
      omega

/-- Settles O35: each direction's two comparisons, and the moves as R96 tables them. -/
theorem limitClassesAndMoves : Obligations.LimitClassesAndMoves := by
  refine ⟨fun e v => ?_, fun e k => ⟨rfl, rfl, rfl, rfl, rfl, rfl, rfl, rfl, rfl,
    rfl, rfl, rfl, fun hr hc st c h1 h2 => e.move_inRange hr hc st c h1 h2⟩⟩
  intro low high
  refine ⟨fun hdir => ?_, fun hdir hlimit => ?_⟩
  · have hlow : ((e.limit - e.hysteresis : Nat) : Int) = low := by
      simp only [low]
      split <;> omega
    have hle : low ≤ e.limit := by omega
    rw [LimitEntry.classify_above hdir, hlow]
    refine ⟨?_, ?_, ?_⟩ <;> split_ifs <;> simp only [true_iff, false_iff] <;> omega
  · have hhigh : ((min 65535 (e.limit + e.hysteresis) : Nat) : Int) = high := by
      simp only [high]
      split <;> omega
    have hle : (e.limit : Int) ≤ high := by omega
    rw [LimitEntry.classify_below hdir, hhigh]
    refine ⟨?_, ?_, ?_⟩ <;> split_ifs <;> simp only [true_iff, false_iff] <;> omega

/-! ## Signatures (R114) -/

theorem Signature.fits_iff (e : Signature) (g : Group) (vector : Half) : e.fits g vector = true ↔
    e.valid = true ∧ e.groups.getLsbD g.val = true ∧
      ∀ j : Fin 16, e.care.getLsbD j.val = true → vector.getLsbD j.val = e.pattern.getLsbD j.val := by
  rw [Signature.fits, Bool.and_eq_true, Bool.and_eq_true, beq_iff_eq, and_assoc]
  refine and_congr_right (fun _ => and_congr_right (fun _ => ?_))
  constructor
  · intro h j hcare
    have hbit : ((vector ^^^ e.pattern) &&& e.care).getLsbD j.val = false := by rw [h]; exact BitVec.getLsbD_zero
    rw [BitVec.getLsbD_and, BitVec.getLsbD_xor, hcare, Bool.and_true] at hbit
    exact bne_eq_false_iff_eq.mp hbit
  · intro h
    refine BitVec.eq_of_getLsbD_eq (fun j hj => ?_)
    have := h ⟨j, hj⟩
    simp only [BitVec.getLsbD_and, BitVec.getLsbD_xor]
    cases hcare : e.care.getLsbD j
    · simp
    · simp [this hcare]

/-- The match of a list is its lowest entry that fits (R114). -/
theorem firstMatch_eq_some_iff (g : Group) (vector : Half) : ∀ (es : List Signature) (i k : Nat) (e : Signature),
    firstMatch g vector i es = some (k, e) ↔
      ∃ j : Nat, k = i + j ∧ es[j]? = some e ∧ e.fits g vector = true ∧
        ∀ (m : Nat) (x : Signature), m < j → es[m]? = some x → x.fits g vector = false
  | [], i, k, e => by simp [firstMatch]
  | x :: es, i, k, e => by
    rw [firstMatch]
    split
    next hx =>
      constructor
      · intro h
        obtain ⟨rfl, rfl⟩ := Prod.mk.inj (Option.some.inj h)
        exact ⟨0, rfl, rfl, hx, fun m y hm => absurd hm (Nat.not_lt_zero m)⟩
      · rintro ⟨j, rfl, hj, -, hlow⟩
        cases j with
        | zero => rw [Option.some.inj hj]; rfl
        | succ j =>
          have := hlow 0 x (Nat.succ_pos j) rfl
          rw [hx] at this
          cases this
    next hx =>
      rw [firstMatch_eq_some_iff g vector es (i + 1) k e]
      constructor
      · rintro ⟨j, rfl, hj, hfit, hlow⟩
        refine ⟨j + 1, by omega, hj, hfit, fun m y hm hy => ?_⟩
        cases m with
        | zero => obtain rfl := Option.some.inj hy; exact Bool.eq_false_of_not_eq_true hx
        | succ m => exact hlow m y (Nat.lt_of_succ_lt_succ hm) hy
      · rintro ⟨j, rfl, hj, hfit, hlow⟩
        cases j with
        | zero => obtain rfl := Option.some.inj hj; exact absurd hfit hx
        | succ j => exact ⟨j, by omega, hj, hfit, fun m y hm hy => hlow (m + 1) y (Nat.succ_lt_succ hm) hy⟩

theorem firstMatch_eq_none_iff (g : Group) (vector : Half) : ∀ (es : List Signature) (i : Nat),
    firstMatch g vector i es = none ↔ ∀ e ∈ es, e.fits g vector = false
  | [], i => by simp [firstMatch]
  | x :: es, i => by
    rw [firstMatch, List.forall_mem_cons, ← firstMatch_eq_none_iff g vector es (i + 1)]
    cases x.fits g vector <;> simp

/-- Settles O36: the list's lowest entry that fits, with `fits` flag by flag. -/
theorem firstMatchIsLowest : Obligations.FirstMatchIsLowest := by
  intro g vector entries fits
  have hfits : ∀ i : Fin 32, fits i ↔ entries[i].fits g vector = true := fun i => (Signature.fits_iff _ _ _).symm
  have hget : ∀ i : Fin 32, entries.toList[i.val]? = some entries[i] := fun i => by simp
  constructor
  · rw [firstMatch_eq_none_iff]
    constructor
    · intro h i hi
      have := h entries[i] (by simp)
      rw [(hfits i).mp hi] at this
      cases this
    · intro h e he
      obtain ⟨i, hi, rfl⟩ := List.getElem_of_mem he
      have hi' : i < 32 := by simpa using hi
      exact Bool.eq_false_of_not_eq_true (fun hf => h ⟨i, hi'⟩ ((hfits _).mpr (by simpa using hf)))
  · intro i
    rw [firstMatch_eq_some_iff]
    constructor
    · rintro ⟨j, hj, -, hfit, hlow⟩
      obtain rfl : j = i.val := by omega
      refine ⟨(hfits i).mpr hfit, fun m hm hfm => ?_⟩
      have := hlow m.val entries[m] hm (hget m)
      rw [(hfits m).mp hfm] at this
      cases this
    · rintro ⟨hfit, hlow⟩
      refine ⟨i.val, (Nat.zero_add _).symm, hget i, (hfits i).mp hfit, fun m x hm hx => ?_⟩
      have hm' : m < 32 := Nat.lt_trans hm i.isLt
      obtain rfl : entries[(⟨m, hm'⟩ : Fin 32)] = x := Option.some.inj ((hget ⟨m, hm'⟩).symm.trans hx)
      exact Bool.eq_false_of_not_eq_true (fun hf => hlow ⟨m, hm'⟩ hm ((hfits _).mpr hf))

/-! ## The selection of events (R137 to R142) -/

/-- A dispatch of a kind without details (R138 to R140). -/
theorem Dispatcher.dispatch_plain (d : Dispatcher) (b : Bank) {k : EventKind} (hk : k.detailKind = none)
    (hslot : d.slot = none) : d.dispatch b k = { d with
      last := k
      raw := d.raw ||| k.flag
      slot := if KindSet.has d.mask k = true then none
        else (b.eventDest k).map (fun a => (⟨k, none, 0, a, b.sendMode k⟩ : SlotFrame))
      pending := d.pending &&& ~~~k.flag } := by
  simp only [Dispatcher.dispatch, Dispatcher.consume, Dispatcher.slotFrame, hk]
  split
  · rw [← hslot]; rfl
  · cases b.eventDest k
    · rw [Option.map_none, ← hslot]; rfl
    · rfl

/-- A dispatch of a detail kind takes the head of its stack (R138 to R140). -/
theorem Dispatcher.dispatch_detail (d : Dispatcher) (b : Bank) {k : EventKind} {dk : DetailKind} {e : Detail}
    {rest : List Detail} (hk : k.detailKind = some dk) (hstack : d.stack dk = e :: rest) (hslot : d.slot = none) :
    d.dispatch b k = { d.setStack dk rest with
      last := k
      raw := d.raw ||| k.flag
      slot := if KindSet.has d.mask k = true then none
        else (b.eventDest k).map (fun a => (⟨k, some e, rest.length, a, b.sendMode k⟩ : SlotFrame))
      pending := if rest = [] then d.pending &&& ~~~k.flag else d.pending } := by
  have hstack' : ({ d with last := k, raw := KindSet.set d.raw k } : Dispatcher).stack dk = e :: rest := by
    cases dk <;> exact hstack
  have hconsume : ({ d with last := k, raw := KindSet.set d.raw k } : Dispatcher).consume k = { d.setStack dk rest with
      last := k, raw := d.raw ||| k.flag, slot := none
      pending := if rest = [] then d.pending &&& ~~~k.flag else d.pending } := by
    simp only [Dispatcher.consume, hk, hstack', List.tail_cons, List.isEmpty_iff]
    rw [← hslot]
    split <;> cases dk <;> rfl
  simp only [Dispatcher.dispatch, Dispatcher.slotFrame, hk, hstack', hconsume, List.tail_cons, List.head?_cons]
  split
  · rfl
  · cases b.eventDest k <;> rfl

/-- Settles O39: the rotation kind by kind, and a selection's two conditions before the dispatch. -/
theorem selectionDispatchesInRotation : Obligations.SelectionDispatchesInRotation := by
  refine ⟨fun last => by cases last <;> decide, fun s hheld => ?_⟩
  intro b
  have hrun : exec .eventSelection s = .next (select s) := by
    refine congrArg Host.Outcome.next ?_
    rw [State.running, s.isHeld_eq_false_iff.mpr hheld]
    rfl
  refine ⟨fun hstop => ?_, fun k hslot hup hfind => ?_⟩
  · rw [hrun, select]
    refine congrArg Host.Outcome.next ?_
    split
    next hc =>
      rw [Bool.and_eq_true, Option.isNone_iff_eq_none, s.isUp_iff] at hc
      obtain h | h | h := hstop
      · exact absurd hc.1 h
      · exact absurd hc.2 h
      · have hnone : s.disp.selected b = none := List.find?_eq_none.mpr (fun j _ => by rw [h j]; exact Bool.false_ne_true)
        rw [show s.disp.selected s.mgmt.active = none from hnone]
    next => rfl
  · have hselect : select s = s.setDisp (s.disp.dispatch b k) := by
      have hfound : s.disp.selected s.mgmt.active = some k := hfind
      rw [select, hslot, (s.isUp_iff .c).mpr hup, hfound]
      rfl
    rw [hrun, hselect]
    refine ⟨fun hk => ?_, fun dk e rest hk hstack => ?_⟩
    · rw [Dispatcher.dispatch_plain _ _ hk hslot]
      rfl
    · rw [Dispatcher.dispatch_detail _ _ hk hstack hslot]
      rfl

/-! ## Markers (R152, R156) -/

/-- With no marker of its kind waiting there is none to merge with. -/
theorem mergeWaiting_none {m : Marker} : ∀ {l : List Waiting}, (∀ w : Marker, .marker w ∈ l → w.sameKind m = false) →
    mergeWaiting m l = none
  | [], _ => rfl
  | .marker w :: l, h => by
    rw [mergeWaiting, h w List.mem_cons_self, if_neg Bool.false_ne_true,
      mergeWaiting_none (fun x hx => h x (List.mem_cons_of_mem _ hx))]
    rfl
  | .reply d r :: l, h => by
    rw [mergeWaiting, mergeWaiting_none (fun x hx => h x (List.mem_cons_of_mem _ hx))]
    rfl

/-- The first waiting marker of its kind keeps its place and takes the later parameters. -/
theorem mergeWaiting_some {m w : Marker} {after : List Waiting} (hw : w.sameKind m = true) : ∀ {before : List Waiting},
    (∀ x : Marker, .marker x ∈ before → x.sameKind m = false) →
    mergeWaiting m (before ++ .marker w :: after) = some (before ++ .marker (w.merge m) :: after)
  | [], _ => if_pos hw
  | .marker x :: before, h => by
    rw [List.cons_append, mergeWaiting, h x List.mem_cons_self, if_neg Bool.false_ne_true,
      mergeWaiting_some hw (fun y hy => h y (List.mem_cons_of_mem _ hy))]
    rfl
  | .reply d r :: before, h => by
    rw [List.cons_append, mergeWaiting, mergeWaiting_some hw (fun y hy => h y (List.mem_cons_of_mem _ hy))]
    rfl

theorem ReportQueue.offerMarker_room {q : ReportQueue} (h : q.records.length < 64) (dest : Addr) (m : Marker) :
    q.offerMarker dest m = { q with records := q.records ++ [⟨dest, .marker m⟩] } :=
  if_pos (decide_eq_true h)

theorem ReportQueue.offerMarker_full {q : ReportQueue} (h : 64 ≤ q.records.length) (dest : Addr) (m : Marker) :
    q.offerMarker dest m = { q with waiting := (mergeWaiting m q.waiting).getD (q.waiting ++ [.marker m]) } := by
  have hfull : q.placeFree = false := decide_eq_false (Nat.not_lt.mpr h)
  rw [ReportQueue.offerMarker, hfull, if_neg Bool.false_ne_true]
  cases mergeWaiting m q.waiting <;> rfl

/-- Settles O41: entry, waiting and merging, and the merges kind by kind. -/
theorem markerEntersWaitsOrMerges : Obligations.MarkerEntersWaitsOrMerges := by
  refine ⟨fun q dest m => ⟨fun h => ReportQueue.offerMarker_room h dest m, fun h hnone => ?_,
    fun before after w h hwaiting hbefore hw => ?_⟩, fun w m => ?_, fun _ _ _ _ => rfl, fun _ _ _ _ => rfl, fun _ => rfl,
    fun _ _ => rfl, rfl⟩
  · rw [ReportQueue.offerMarker_full h, mergeWaiting_none hnone]
    rfl
  · rw [ReportQueue.offerMarker_full h, hwaiting, mergeWaiting_some hw hbefore]
    rfl
  · cases w <;> cases m <;> simp [Marker.sameKind]

/-! ## Requests that are not taken (R24, R155, R167, R168) -/

/-- Settles O42: a BUSY reply is offered and nothing else done. -/
theorem busyRequestChangesNothing : Obligations.BusyRequestChangesNothing := by
  intro i r q s hr hhears hbusy hsource hlength
  rw [exec_request hr, s.requestArrives_busy hhears q r _ hbusy hsource hlength]
  refine congrArg Host.Outcome.next ?_
  rw [State.answerBusy, ReportQueue.offerBusy]
  by_cases hroom : s.rep.records.length < 64
  · rw [if_pos hroom]
    exact congrArg (State.setRep { s with links := s.links.heardOnC }) (if_pos (decide_eq_true hroom))
  · rw [if_neg hroom]
    exact congrArg (State.setRep { s with links := s.links.heardOnC }) 
      (if_neg (by rw [show s.rep.placeFree = false from decide_eq_false hroom]; exact Bool.false_ne_true))

end Sys2Proof.Machine
end

section
/-! Requests that are malformed (R19, R24, R168). -/

namespace Sys2Proof.Machine

/-! ## Tables by their codes (2.1.3, 2.1.6) -/

theorem TableId.ofByte_eq_some_iff {b : Byte} {t : TableId} : TableId.ofByte b = some t ↔ b = t.code := by
  constructor
  · intro h
    exact (beq_iff_eq.mp (List.find?_some h :)).symm
  · rintro rfl
    cases t <;> rfl

@[simp] theorem TableId.ofByte_code (t : TableId) : TableId.ofByte t.code = some t :=
  TableId.ofByte_eq_some_iff.mpr rfl

theorem TableId.ofByte_eq_none_iff {b : Byte} : TableId.ofByte b = none ↔ ∀ t : TableId, b ≠ t.code := by
  rw [Option.eq_none_iff_forall_ne_some]
  exact forall_congr' (fun t => not_congr TableId.ofByte_eq_some_iff)

/-- Each table's code and entry size, as the request envelope reads them. -/
theorem exists_tableSize_iff {b : Byte} {P : Nat → Prop} :
    (∃ table ∈ ([(1, 10), (2, 53), (3, 13), (4, 8), (5, 2), (6, 2), (7, 10)] : List (Nat × Nat)),
      b.toNat = table.1 ∧ P table.2) ↔ ∃ t : TableId, b = t.code ∧ P t.entrySize := by
  have hsizes : ([(1, 10), (2, 53), (3, 13), (4, 8), (5, 2), (6, 2), (7, 10)] : List (Nat × Nat)) =
      [TableId.channelMap, .groupPlan, .limit, .signature, .eventTable, .route, .partSettings].map
        (fun t => (t.code.toNat, t.entrySize)) := rfl
  rw [hsizes]
  constructor
  · rintro ⟨table, hmem, hb, hp⟩
    obtain ⟨t, -, rfl⟩ := List.mem_map.mp hmem
    exact ⟨t, BitVec.eq_of_toNat_eq hb, hp⟩
  · rintro ⟨t, rfl, hp⟩
    refine ⟨_, List.mem_map_of_mem (a := t) ?_, rfl, hp⟩
    cases t <;> simp

/-! ## Envelopes (R24) -/

theorem envelopeOk_write (ps : List Byte) : envelopeOk 0x01 ps = true ↔
    3 ≤ ps.length ∧ byteAt ps 2 ≠ 0 ∧
      ∃ t : TableId, byteAt ps 0 = t.code ∧ ps.length = 3 + (byteAt ps 2).toNat * t.entrySize := by
  rw [envelopeOk, if_pos rfl, Bool.and_eq_true, Bool.and_eq_true, decide_eq_true_eq, bne_iff_ne, and_assoc]
  refine and_congr_right (fun _ => and_congr_right (fun _ => ?_))
  cases htable : TableId.ofByte (byteAt ps 0) with
  | none =>
    refine ⟨fun h => Bool.noConfusion h, ?_⟩
    rintro ⟨t, ht, -⟩
    exact absurd ht (TableId.ofByte_eq_none_iff.mp htable t)
  | some t =>
    have ht := TableId.ofByte_eq_some_iff.mp htable
    rw [ht]
    refine ⟨fun h => ⟨t, rfl, of_decide_eq_true h⟩, ?_⟩
    rintro ⟨u, hu, hlength⟩
    obtain rfl : t = u := Option.some.inj ((TableId.ofByte_code t).symm.trans (hu ▸ TableId.ofByte_code u))
    exact decide_eq_true hlength

/-- The envelope of every code but WRITE_STAGING, whose own is `envelopeOk_write`. -/
theorem envelopeOk_iff_of_ne {code : Byte} (hcode : code ≠ 0x01) (ps : List Byte) : envelopeOk code ps = true ↔
    (code = 0x02 ∧ ps.length = 4) ∨
    (code ∈ [(0x03 : Byte), 0x04, 0x06, 0x09, 0x0B, 0x0D, 0x14, 0x1A] ∧ ps.length = 0) ∨
    (code ∈ [(0x05 : Byte), 0x10, 0x11, 0x12, 0x13, 0x19] ∧ ps.length = 2) ∨
    (code ∈ [(0x07 : Byte), 0x08, 0x0A, 0x0C] ∧ ps.length = 1) ∨
    (code = 0x18 ∧ 1 ≤ (byteAt ps 2).toNat ∧ (byteAt ps 2).toNat ≤ 4 ∧ ps.length = 3 + (byteAt ps 2).toNat) := by
  rw [envelopeOk, if_neg hcode]
  split_ifs with h4 h2 h1 h0 hsnap
  · subst h4
    simp
  · have : code ≠ 0x18 ∧ code ∉ [(0x07 : Byte), 0x08, 0x0A, 0x0C] ∧
        code ∉ [(0x03 : Byte), 0x04, 0x06, 0x09, 0x0B, 0x0D, 0x14, 0x1A] := by
      revert code; decide
    simp only [h4, h2, this, false_and, true_and, false_or, or_false, decide_eq_true_eq]
  · have : code ≠ 0x18 ∧ code ∉ [(0x03 : Byte), 0x04, 0x06, 0x09, 0x0B, 0x0D, 0x14, 0x1A] := by
      revert code; decide
    simp only [h4, h2, h1, this, false_and, true_and, false_or, or_false, decide_eq_true_eq]
  · have : code ≠ 0x18 := by
      rintro rfl
      exact absurd h0 (by decide)
    simp only [h4, h2, h1, h0, this, false_and, true_and, false_or, or_false, decide_eq_true_eq]
  · simp only [Bool.and_eq_true, decide_eq_true_eq, eq_false h4, eq_false h2, eq_false h1, eq_false h0, false_and, false_or]
    simp only [hsnap, true_and]
    omega
  · simp only [h4, h2, h1, h0, hsnap, false_and, or_false]

theorem envelopeOk_iff (code : Byte) (params : List Byte) : envelopeOk code params = true ↔
    (code = 0x01 ∧ 3 ≤ params.length ∧ byteAt params 2 ≠ 0 ∧
      ∃ table ∈ ([(1, 10), (2, 53), (3, 13), (4, 8), (5, 2), (6, 2), (7, 10)] : List (Nat × Nat)),
        (byteAt params 0).toNat = table.1 ∧ params.length = 3 + (byteAt params 2).toNat * table.2) ∨
    (code = 0x02 ∧ params.length = 4) ∨
    (code ∈ [(0x03 : Byte), 0x04, 0x06, 0x09, 0x0B, 0x0D, 0x14, 0x1A] ∧ params.length = 0) ∨
    (code ∈ [(0x05 : Byte), 0x10, 0x11, 0x12, 0x13, 0x19] ∧ params.length = 2) ∨
    (code ∈ [(0x07 : Byte), 0x08, 0x0A, 0x0C] ∧ params.length = 1) ∨
    (code = 0x18 ∧ 1 ≤ (byteAt params 2).toNat ∧ (byteAt params 2).toNat ≤ 4 ∧
      params.length = 3 + (byteAt params 2).toNat) := by
  rw [exists_tableSize_iff (P := fun size => params.length = 3 + (byteAt params 2).toNat * size)]
  by_cases hcode : code = 0x01
  · subst hcode
    rw [envelopeOk_write]
    simp
  · rw [envelopeOk_iff_of_ne hcode]
    exact ⟨.inr, fun h => h.resolve_left (fun hone => hcode hone.1)⟩

/-! ## Malformed requests (R19, R24, R168) -/

theorem requestHandled_short {r : Request} (hlength : r.params.length ≤ 238) (act : Action) (s : State) :
    State.requestHandled r act s = s.giveRequest r act :=
  if_neg (Nat.not_lt.mpr hlength)

/-- Settles O43: the envelopes, then the three ways a request is malformed. -/
theorem malformedRequests : Obligations.MalformedRequests := by
  refine ⟨envelopeOk_iff, fun i r s hr hhears => ⟨fun hfree hsource hlength henvelope => ?_, fun hsource hlength => ?_,
    fun hlength => ?_⟩⟩
  · rw [exec_request hr, s.requestArrives_malformed hhears hfree r _ hsource hlength henvelope]
  · rw [exec_request hr, State.requestArrives, s.received_hears hhears, requestHandled_short hlength, State.giveRequest,
      if_pos hsource]
    rfl
  · rw [exec_request hr, State.requestArrives, s.received_hears hhears, State.requestHandled, if_pos hlength]
    refine ⟨_, rfl, ?_, ?_, State.raised_raise_self _ _, ?_⟩ <;> rw [State.offerCToS_eq] <;> rfl

end Sys2Proof.Machine
end

section
/-! The requests that read, the Staging bank's requests, and the snapshot requests (R42, R103, R123, R148, R171, R173, R174,
R188 to R190, R196, R204, R205). -/

namespace Sys2Proof.Machine

/-! ## Requests answered and no more -/

theorem fin8Of_eq_some_iff {b : Byte} {g : Fin 8} : fin8Of b = some g ↔ b = byte g.val := by
  rw [fin8Of, byte, ← BitVec.toNat_inj, BitVec.toNat_ofNat, Nat.mod_eq_of_lt (by omega)]
  split
  next h =>
    rw [Option.some.injEq, Fin.ext_iff]
  next h =>
    exact ⟨fun hn => (Option.some_ne_none _ hn.symm).elim, fun hb => absurd (hb ▸ g.isLt) h⟩

theorem fin8Of_byte (g : Fin 8) : fin8Of (byte g.val) = some g := fin8Of_eq_some_iff.mpr rfl

theorem fin8Of_eq_none_iff {b : Byte} : fin8Of b = none ↔ 7 < b.toNat := by
  rw [fin8Of]
  split
  · exact ⟨fun hn => (Option.some_ne_none _ hn).elim, fun hb => by omega⟩
  · exact ⟨fun _ => by omega, fun _ => rfl⟩

/-- A taken request whose action is a reply is answered, and nothing else is done. -/
theorem exec_answered {i : Instr} {r : Request} (hi : requestOf i = some r) {s : State} (hs : s.takesRequests)
    (hsource : r.source ≠ 63) (hlength : r.params.length ≤ 238) (henvelope : envelopeOk r.code r.params = true) {st : Status}
    {d : List Byte} (haction : actionOf r.code r (s.taken r) = (s.taken r).answer r st d) :
    exec i s = .next (s.answered r st d) := by
  rw [exec_taken hi hs hsource hlength henvelope, haction, s.answer_taken]

/-! ## The data of the read requests -/

/-- The records of a group's entries, index by index (R103). -/
theorem entryRecords_ofFn (g : Group) : ∀ {n : Nat} (i : Nat) (e : Fin n → LimitEntry) (st : Fin n → LimitState),
    entryRecords g i (List.ofFn e) (List.ofFn st) =
      ((List.finRange n).filter (fun j => (e j).valid && (e j).group == g)).map
        (fun j => byte (i + j.val) :: (st j).encode)
  | 0, _, _, _ => rfl
  | n + 1, i, e, st => by
    have htail := entryRecords_ofFn g (i + 1) (fun j => e j.succ) (fun j => st j.succ)
    have hindex : ∀ j : Fin n, i + 1 + j.val = i + j.succ.val := fun j => by rw [Fin.val_succ]; omega
    rw [List.ofFn_succ, List.ofFn_succ, entryRecords, htail, List.finRange_succ, List.filter_cons, List.filter_map]
    simp only [hindex]
    split
    · rw [List.map_cons, List.map_map]
      rfl
    · rw [List.map_map]
      rfl

theorem toList_eq_ofFn {α : Type} {n : Nat} (v : Vector α n) : v.toList = List.ofFn (fun i : Fin n => v[i]) :=
  List.ext_getElem (by simp) (fun i _ _ => by simp)

theorem Descriptor.encode_eq (d : Descriptor) : d.encode = if d.state = .free then List.replicate 10 0
    else [d.state.code] ++ be16 d.number ++ be16 d.start ++ be16 (d.stop.getD 0) ++ be16 d.tag ++ [flagByte d.held] := by
  rw [Descriptor.encode, Descriptor.live]
  cases d.state <;> rfl

/-- Port C has heard the request, so READ_STATUS finds it UP (R9); nothing else of the ports that it reads has changed. -/
theorem Links.heardOnC_reads (l : Links) : l.heardOnC.s = l.s ∧ l.heardOnC.c.link = .up ∧
    l.heardOnC.c.badCount = l.c.badCount ∧ l.heardOnC.cause = l.cause ∧ l.heardOnC.mask = l.mask := by
  rw [Links.heardOnC]
  split
  next hup => exact ⟨rfl, hup, rfl, rfl, rfl⟩
  next => exact ⟨rfl, rfl, rfl, rfl, rfl⟩

theorem State.statusData_taken (s : State) (r : Request) : (s.taken r).statusData =
    [s.links.s.link.code, 4] ++ beNat s.links.s.badCount ++ beNat s.links.c.badCount
      ++ [s.links.cause.code, flagByte s.links.mask.isSome, s.partAddr.setWidth 8]
      ++ commitStatus s.mgmt.activeGen s.mgmt.commit ++ holdStatus s.mgmt.hold
      ++ s.ana.groups.toList.map (fun x => x.state.code)
      ++ [alertSet s.latches, byte s.ana.queue.length, flagByte s.ana.engine.isSome] ++ s.rep.encode ++ [s.snap.state.code] := by
  obtain ⟨hs, hup, hbad, hcause, hmask⟩ := s.links.heardOnC_reads
  have hport : (s.taken r).links = s.links.heardOnC := rfl
  rw [State.statusData, hport, hs, hup, hbad, hcause, hmask]
  rfl

theorem State.checkStatus_eq (s : State) (g : Group) : s.checkStatus g =
    (let states := s.limitStates g
     let entries := ((List.finRange 96).filter (fun i =>
       (s.groupBank g).limits[i].valid && (s.groupBank g).limits[i].group == g)).map (fun i => byte i.val :: states[i].encode)
     be16 (s.vector g) ++ [byte entries.length] ++ (entries.take 62).flatten) := by
  rw [State.checkStatus, toList_eq_ofFn, toList_eq_ofFn, entryRecords_ofFn]
  simp only [Nat.zero_add]
  rfl

/-! ## READ_TABLE (R168, R173) -/

theorem readInRange_iff (t : TableId) (first count : Nat) : readInRange t first count = true ↔
    1 ≤ count ∧ first + count ≤ t.size ∧ count * t.entrySize ≤ 236 := by
  simp [readInRange, and_assoc]

theorem State.bankNamed_eq_none {s : State} {a : Byte} (ha : 1 < a.toNat) : s.bankNamed a = none := by
  have h0 : a ≠ 0 := by rintro rfl; exact absurd ha (by decide)
  have h1 : a ≠ 1 := by rintro rfl; exact absurd ha (by decide)
  rw [State.bankNamed, if_neg h0, if_neg h1]

theorem doReadTable_done {s : State} {r : Request} {bank : Bank} {t : TableId} (hbank : s.bankNamed (r.param 0) = some bank)
    (htable : r.param 1 = t.code) (hrange : readInRange t (r.param 2).toNat (r.param 3).toNat = true) :
    doReadTable r s = s.answer r .done (((bank.rows t).drop (r.param 2).toNat).take (r.param 3).toNat).flatten := by
  rw [doReadTable, hbank, TableId.ofByte_eq_some_iff.mpr htable]
  exact if_pos hrange

theorem doReadTable_badRequest {s : State} {r : Request} (h : s.bankNamed (r.param 0) = none ∨
    TableId.ofByte (r.param 1) = none ∨
    ∃ t : TableId, r.param 1 = t.code ∧ readInRange t (r.param 2).toNat (r.param 3).toNat = false) :
    doReadTable r s = s.answer r .badRequest [] := by
  rw [doReadTable]
  rcases h with h | h | ⟨t, htable, hrange⟩
  · rw [h]
  · rw [h]
    cases s.bankNamed (r.param 0) <;> rfl
  · rw [TableId.ofByte_eq_some_iff.mpr htable]
    cases s.bankNamed (r.param 0)
    · rfl
    · exact if_neg (by rw [hrange]; exact Bool.false_ne_true)

theorem doReadGroup_byte (s : State) {r : Request} (g : Group) (h : r.param 0 = byte g.val) :
    doReadGroup r s = s.answer r .done (s.groupData g) := by
  rw [doReadGroup, fin8Of_eq_some_iff.mpr h]

/-- The data of READ_GROUP (R103, R123, R189), of a state a request has been taken in. -/
theorem State.groupData_taken (s : State) (r : Request) (g : Group) : (s.taken r).groupData g =
    ([byte g.val, (s.group g).state.code] ++ be16 (s.group g).gen ++ be16 (s.group g).counter
      ++ [byte (s.group g).rejects, flagByte (s.group g).arm] ++ beNat (s.group g).late
      ++ (s.group g).descs.toList.flatMap (fun w =>
        if w.state = .free then List.replicate 10 0
        else [w.state.code] ++ be16 w.number ++ be16 w.start ++ be16 (w.stop.getD 0) ++ be16 w.tag ++ [flagByte w.held]))
      ++ latchStatus (s.latch g) ++ s.checkStatus g := by
  have hdescs : (fun w : Descriptor => if w.state = .free then List.replicate 10 0
      else [w.state.code] ++ be16 w.number ++ be16 w.start ++ be16 (w.stop.getD 0) ++ be16 w.tag ++ [flagByte w.held]) =
      Descriptor.encode := funext (fun w => w.encode_eq.symm)
  rw [hdescs]
  rfl

/-- Settles O46: each read is a reply, whose data is read off the taken state. -/
theorem readRequestsAnswerAndKeep : Obligations.ReadRequestsAnswerAndKeep := by
  intro s source seq a b c d hs hsource
  refine ⟨?_, ?_, ?_, fun g hg => ?_, fun ha => ?_, fun bank t hbank hb hcount hrange hbytes => ?_, fun h => ?_⟩
  · refine exec_answered rfl hs hsource (by show 0 ≤ 238; decide) rfl
      (congrArg (State.answer _ _ .done) ((s.statusData_taken _).trans ?_))
    cases s.mgmt.commit <;> cases s.mgmt.hold <;> cases s.snap.state <;> rfl
  · exact exec_answered rfl hs hsource (by show 0 ≤ 238; decide) rfl rfl
  · refine exec_answered rfl hs hsource (by show 0 ≤ 238; decide) rfl rfl
  · subst hg
    refine exec_answered rfl hs hsource (by show 1 ≤ 238; decide) rfl ((doReadGroup_byte _ _ rfl).trans
      (congrArg (State.answer _ _ .done) ((s.groupData_taken _ g).trans ?_)))
    rw [s.checkStatus_eq]
    cases s.latch g <;> rfl
  · refine exec_answered rfl hs hsource (by show 1 ≤ 238; decide) rfl ?_
    show doReadGroup _ _ = _
    rw [doReadGroup, show fin8Of (Request.param ⟨source, seq, 0x0A, [a]⟩ 0) = none from fin8Of_eq_none_iff.mpr ha]
  · refine exec_answered rfl hs hsource (by show 4 ≤ 238; decide) rfl ?_
    refine doReadTable_done ?_ hb ((readInRange_iff _ _ _).mpr ⟨hcount, hrange, hbytes⟩)
    rcases hbank with ⟨rfl, rfl⟩ | ⟨rfl, rfl⟩ <;> rfl
  · refine exec_answered rfl hs hsource (by show 4 ≤ 238; decide) rfl (doReadTable_badRequest ?_)
    have hfar : (∀ t : TableId, b ≠ t.code) → TableId.ofByte b = none := TableId.ofByte_eq_none_iff.mpr
    rcases h with ha | rfl | hb | rfl | ⟨t, hb, hrange⟩
    · exact .inl (State.bankNamed_eq_none ha)
    · exact .inr (.inl rfl)
    · refine .inr (.inl (hfar (fun t ht => ?_)))
      subst ht
      cases t <;> exact absurd hb (by decide)
    · cases htable : TableId.ofByte b with
      | none => exact .inr (.inl htable)
      | some t => exact .inr (.inr ⟨t, TableId.ofByte_eq_some_iff.mp htable, rfl⟩)
    · refine .inr (.inr ⟨t, hb, Bool.eq_false_of_not_eq_true (fun htrue => ?_)⟩)
      obtain ⟨-, hfit, hbytes⟩ := (readInRange_iff _ _ _).mp htrue
      exact hrange.elim (fun h => absurd hfit (Nat.not_le.mpr h)) (fun h => absurd hbytes (Nat.not_le.mpr h))

end Sys2Proof.Machine
end

section
/-! The Staging bank's requests and the writing of entries (R171, R174), and the snapshot requests (R196, R204, R205). -/

namespace Sys2Proof.Machine

/-! ## WRITE_STAGING and COPY_ACTIVE (R171, R174) -/

/-- The reply to a request taken whose action has written the Management Unit. -/
theorem State.answer_setMgmt_taken (s : State) (r : Request) (m : Management) (hm : m.request = some r) (st : Status)
    (d : List Byte) : ((s.taken r).setMgmt m).answer r st d =
      { s.answered r st d with mgmt := { m with request := s.rep.inProgress r } } := by
  rw [State.answer_spec, ReportQueue.inProgress, ← hm]
  rfl

theorem doWriteStaging_table {r : Request} {t : TableId} (ht : r.param 0 = t.code) (s : State) : doWriteStaging r s =
    if (r.param 1).toNat + (r.param 2).toNat ≤ t.size then writeEntries r t s else s.answer r .badRequest [] := by
  rw [doWriteStaging, TableId.ofByte_eq_some_iff.mpr ht]

/-- A pending commit refuses a write to Staging (R171). -/
theorem writeEntries_pending {s : State} (h : s.mgmt.commit ≠ none) (r : Request) (t : TableId) :
    writeEntries r t s = s.answer r .commitPending [] := by
  rw [writeEntries, if_pos (Option.isSome_iff_ne_none.mpr h)]

theorem writeEntries_free {s : State} (h : s.mgmt.commit = none) (r : Request) (t : TableId) : writeEntries r t s =
    match s.mgmt.staging.write t (r.param 1).toNat (chunks t.entrySize (r.param 2).toNat (r.params.drop 3)) with
    | .ok b => (s.setMgmt { s.mgmt with staging := b }).answer r .done []
    | .error i => s.answer r .badEntry [byte i] := by
  rw [writeEntries, h]
  rfl

/-- Settles O47: the request's steps in their order. -/
theorem stagingRequests : Obligations.StagingRequests := by
  intro s source seq first count t entries hs hsource hcount hentries hlength params r does written
  have hshort : r.params.length ≤ 238 := by
    show entries.length + 3 ≤ 238
    omega
  have henvelope : envelopeOk 0x01 r.params = true :=
    (envelopeOk_write _).mpr ⟨Nat.le_add_left 3 _, hcount, t, rfl, by show entries.length + 3 = 3 + _; rw [hentries, Nat.add_comm]; rfl⟩
  have htaken : does = .next (if first.toNat + count.toNat ≤ t.size then writeEntries r t (s.taken r)
      else (s.taken r).answer r .badRequest []) :=
    (exec_taken rfl hs hsource hshort henvelope).trans (congrArg Host.Outcome.next (doWriteStaging_table (t := t) rfl _))
  rw [htaken]
  refine ⟨fun hrange => ?_, fun hrange hpending => ?_, fun hrange hfree i hwritten => ?_, fun hrange hfree b hwritten => ?_,
    ?_⟩
  · rw [if_neg (Nat.not_le.mpr hrange), s.answer_taken]
  · rw [if_pos hrange, writeEntries_pending (s := s.taken r) hpending, s.answer_taken]
  · rw [if_pos hrange, writeEntries_free (s := s.taken r) hfree]
    have hw : (s.taken r).mgmt.staging.write t (r.param 1).toNat
      (chunks t.entrySize (r.param 2).toNat (r.params.drop 3)) = .error i := hwritten
    rw [hw]
    exact congrArg Host.Outcome.next (s.answer_taken r _ _)
  · rw [if_pos hrange, writeEntries_free (s := s.taken r) hfree]
    have hw : (s.taken r).mgmt.staging.write t (r.param 1).toNat
      (chunks t.entrySize (r.param 2).toNat (r.params.drop 3)) = .ok b := hwritten
    rw [hw]
    exact congrArg Host.Outcome.next (s.answer_setMgmt_taken r _ rfl _ _)
  · intro q
    have hq : exec (.copyActive source seq []) s = .next (doCopyActive q (s.taken q)) :=
      exec_taken (r := q) rfl hs hsource (Nat.zero_le _) rfl
    rw [hq, doCopyActive]
    refine ⟨fun hpending => congrArg Host.Outcome.next ?_, fun hfree => congrArg Host.Outcome.next ?_⟩
    · exact (if_pos (Option.isSome_iff_ne_none.mpr hpending)).trans (s.answer_taken q _ _)
    · exact (if_neg (Option.not_isSome_iff_eq_none.mpr hfree)).trans (s.answer_setMgmt_taken q _ rfl _ _)

/-! ## Entries of a table written (R171) -/

theorem readEntries_ok {α : Type} {read : List Byte → Option α} : ∀ {raw : List (List Byte)} {i : Nat} {es : List α},
    readEntries read i raw = .ok es → es.map some = raw.map read
  | [], _, _, h => by cases h; rfl
  | bs :: rest, i, es, h => by
    rw [readEntries] at h
    cases hread : read bs with
    | none => rw [hread] at h; cases h
    | some e =>
      cases hrest : readEntries read (i + 1) rest with
      | error j => rw [hread, hrest] at h; cases h
      | ok l =>
        rw [hread, hrest] at h
        cases h
        rw [List.map_cons, List.map_cons, hread, readEntries_ok hrest]

/-- The bad entry named is the first that its range check refuses. -/
theorem readEntries_error_iff {α : Type} {read : List Byte → Option α} : ∀ {raw : List (List Byte)} {i k : Nat},
    readEntries read i raw = .error k ↔
      i ≤ k ∧ (raw[k - i]?).map read = some none ∧ ∀ j : Nat, j < k - i → ∀ x, raw[j]? = some x → read x ≠ none
  | [], i, k => by simp [readEntries]
  | bs :: rest, i, k => by
    rw [readEntries]
    cases hread : read bs with
    | none =>
      constructor
      · intro h
        cases h
        exact ⟨Nat.le_refl i, by simp [hread], fun j hj => absurd hj (by omega)⟩
      · rintro ⟨hle, -, hbefore⟩
        have hk : ¬ 0 < k - i := fun h => hbefore 0 h bs rfl hread
        rw [show i = k by omega]
    | some e =>
      have hstep : readEntries read i (bs :: rest) = .error k ↔ readEntries read (i + 1) rest = .error k := by
        rw [readEntries, hread]
        cases readEntries read (i + 1) rest <;> simp
      rw [readEntries, hread] at hstep
      rw [hstep, readEntries_error_iff]
      constructor
      · rintro ⟨hle, hbad, hbefore⟩
        have hk : k - i = k - (i + 1) + 1 := by omega
        rw [hk]
        refine ⟨by omega, hbad, fun j hj x hx => ?_⟩
        cases j with
        | zero => obtain rfl := Option.some.inj hx; rw [hread]; exact Option.some_ne_none e
        | succ j => exact hbefore j (by omega) x hx
      · rintro ⟨hle, hbad, hbefore⟩
        have hne : k ≠ i := by
          rintro rfl
          rw [Nat.sub_self, List.getElem?_cons_zero, Option.map_some, hread] at hbad
          cases hbad
        have hk : k - i = k - (i + 1) + 1 := by omega
        rw [hk] at hbad hbefore
        exact ⟨by omega, hbad, fun j hj => hbefore (j + 1) (by omega)⟩

theorem getElem_writeFrom {α : Type} {n : Nat} : ∀ (es : List α) (i : Nat) (v : Vector α n) (j : Nat) (h : j < n),
    (writeFrom i es v)[j] = if i ≤ j then (es[j - i]?).getD v[j] else v[j]
  | [], _, _, _, _ => by simp [writeFrom]
  | e :: es, i, v, j, h => by
    rw [writeFrom, getElem_writeFrom es (i + 1), Vector.getElem_setIfInBounds]
    obtain hlt | rfl | hlt := Nat.lt_trichotomy i j
    · rw [if_pos (by omega : i + 1 ≤ j), if_pos (by omega : i ≤ j), if_neg (by omega : ¬ i = j),
        show j - i = j - (i + 1) + 1 by omega, List.getElem?_cons_succ]
    · rw [if_neg (by omega : ¬ i + 1 ≤ i), if_pos rfl, if_pos (Nat.le_refl i), Nat.sub_self]
      rfl
    · rw [if_neg (by omega : ¬ i + 1 ≤ j), if_neg (by omega : ¬ i = j), if_neg (by omega : ¬ i ≤ j)]

/-- Settles O48: by recursion on the entries. -/
theorem writtenEntriesStandInOrder : Obligations.WrittenEntriesStandInOrder :=
  fun _ _ i _ _ v => ⟨fun es h => ⟨readEntries_ok h, getElem_writeFrom es i v⟩, fun _ => readEntries_error_iff⟩

end Sys2Proof.Machine
end

section
/-! The snapshot requests (R196, R204, R205). -/

namespace Sys2Proof.Machine

/-- The reply to a request taken whose action has written the Snapshot Unit. -/
theorem State.answer_setSnap_taken (s : State) (r : Request) (x : SnapshotUnit) (st : Status) (d : List Byte) :
    ((s.taken r).setSnap x).answer r st d = { s.answered r st d with snap := x } := by
  rw [State.answer_spec]
  rfl

/-! ## ARM_SNAPSHOT (R196) -/

theorem byte_chan_injective : Function.Injective (fun c : Fin 8 => byte c.val) := fun a b h =>
  Option.some.inj ((fin8Of_byte a).symm.trans ((congrArg fin8Of h).trans (fin8Of_byte b)))

/-- The channels of a list read, or none when a byte is above 7 or stands twice (R196). -/
theorem readChans_eq_some_iff : ∀ {bs : List Byte} {cs : List Chan},
    readChans bs = some cs ↔ bs = cs.map (fun c => byte c.val) ∧ cs.Nodup
  | [], cs => by
    rw [readChans, Option.some.injEq]
    constructor
    · rintro rfl
      exact ⟨rfl, List.nodup_nil⟩
    · rintro ⟨h, -⟩
      exact (List.map_eq_nil_iff.mp h.symm).symm
  | b :: bs, cs => by
    constructor
    · intro h
      rw [readChans] at h
      split at h
      next c l hc hl =>
        obtain ⟨hbs, hnodup⟩ := readChans_eq_some_iff.mp hl
        split at h
        next => cases h
        next hnew =>
          cases h
          rw [List.contains_iff_mem] at hnew
          exact ⟨by rw [List.map_cons, ← hbs, ← fin8Of_eq_some_iff.mp hc], List.nodup_cons.mpr ⟨hnew, hnodup⟩⟩
      next => cases h
    · rintro ⟨hbs, hnodup⟩
      cases cs with
      | nil => cases hbs
      | cons c l =>
        obtain ⟨rfl, rfl⟩ := List.cons.inj hbs
        obtain ⟨hnew, hl⟩ := List.nodup_cons.mp hnodup
        rw [readChans, fin8Of_byte, readChans_eq_some_iff.mpr ⟨rfl, hl⟩]
        exact if_neg (fun h => hnew (List.contains_iff_mem.mp h))

theorem exists_readChans_iff (bs : List Byte) :
    (∃ cs : List Chan, readChans bs = some cs) ↔ (∀ c ∈ bs, c.toNat ≤ 7) ∧ bs.Nodup := by
  constructor
  · rintro ⟨cs, h⟩
    obtain ⟨rfl, hnodup⟩ := readChans_eq_some_iff.mp h
    refine ⟨fun b hb => ?_, (List.nodup_map_iff byte_chan_injective).mpr hnodup⟩
    obtain ⟨c, -, rfl⟩ := List.mem_map.mp hb
    exact Nat.not_lt.mp (fun hlarge => by
      rw [← fin8Of_eq_none_iff, fin8Of_byte] at hlarge
      exact Option.some_ne_none _ hlarge)
  · rintro ⟨hrange, hnodup⟩
    have hread : ∀ b ∈ bs, b ∈ Set.range (fun c : Fin 8 => byte c.val) := fun b hb =>
      ⟨⟨b.toNat, Nat.lt_succ_of_le (hrange b hb)⟩, (fin8Of_eq_some_iff.mp (by
        rw [fin8Of, dif_pos (Nat.lt_succ_of_le (hrange b hb))])).symm⟩
    obtain ⟨cs, rfl⟩ : bs ∈ Set.range (List.map (fun c : Fin 8 => byte c.val)) := by
      rw [Set.range_list_map]
      exact hread
    exact ⟨cs, readChans_eq_some_iff.mpr ⟨rfl, (List.nodup_map_iff byte_chan_injective).mp hnodup⟩⟩

theorem Trigger.ofByte_eq_some_iff {b : Byte} {t : Trigger} : Trigger.ofByte b = some t ↔ b = t.code := by
  constructor
  · intro h
    exact (beq_iff_eq.mp (List.find?_some h :)).symm
  · rintro rfl
    cases t <;> rfl

theorem exists_trigger_iff (b : Byte) : (∃ t : Trigger, Trigger.ofByte b = some t) ↔ 1 ≤ b.toNat ∧ b.toNat ≤ 5 := by
  constructor
  · rintro ⟨t, ht⟩
    rw [Trigger.ofByte_eq_some_iff.mp ht]
    cases t <;> decide
  · rintro ⟨hlow, hhigh⟩
    obtain h | h | h | h | h : b = 1 ∨ b = 2 ∨ b = 3 ∨ b = 4 ∨ b = 5 := by bv_omega
    all_goals exact ⟨_, congrArg Trigger.ofByte h⟩

theorem exists_group_iff (b : Byte) : (∃ g : Fin 8, fin8Of b = some g) ↔ b.toNat ≤ 7 := by
  rw [← Option.isSome_iff_exists, Option.isSome_iff_ne_none, ne_eq, fin8Of_eq_none_iff, Nat.not_lt]

theorem doArmSnapshot_read {s : State} {r : Request} {g : Group} {t : Trigger} {cs : List Chan}
    (hg : fin8Of (r.param 0) = some g) (ht : Trigger.ofByte (r.param 1) = some t) (hcs : readChans (r.params.drop 3) = some cs) :
    doArmSnapshot r s =
      if s.snap.state == .empty then
        (s.setSnap ⟨.armed ⟨g, t, cs, (s.group g).counter⟩, emptyBuffer⟩).answer r .accepted (be16 (s.group g).counter)
      else s.answer r .busy [] := by
  rw [doArmSnapshot, hg, ht, hcs]

theorem doArmSnapshot_badRequest {s : State} {r : Request} (h : ¬ ((r.param 0).toNat ≤ 7 ∧ 1 ≤ (r.param 1).toNat ∧
    (r.param 1).toNat ≤ 5 ∧ (∀ c ∈ r.params.drop 3, c.toNat ≤ 7) ∧ (r.params.drop 3).Nodup)) :
    doArmSnapshot r s = s.answer r .badRequest [] := by
  rw [← exists_group_iff, ← and_assoc (a := 1 ≤ _), ← exists_trigger_iff, ← exists_readChans_iff] at h
  rw [doArmSnapshot]
  split
  next g t cs hg ht hcs => exact absurd ⟨⟨g, hg⟩, ⟨t, ht⟩, ⟨cs, hcs⟩⟩ h
  next => rfl

/-- Settles O54: the three reads that R196's ranges are. -/
theorem armSnapshot : Obligations.ArmSnapshot := by
  intro s source seq a b chans hs hsource hone hfour params r does inRange
  have hcount : (byte chans.length).toNat = chans.length := by
    rw [byte, BitVec.toNat_ofNat, Nat.mod_eq_of_lt (by omega)]
  have hshort : r.params.length ≤ 238 := by
    show chans.length + 3 ≤ 238
    omega
  have henvelope : envelopeOk 0x18 r.params = true := by
    have hbyte : byteAt r.params 2 = byte chans.length := rfl
    have hlength : r.params.length = chans.length + 3 := rfl
    rw [envelopeOk_iff_of_ne (by decide), hbyte, hcount, hlength]
    exact .inr (.inr (.inr (.inr ⟨rfl, hone, hfour, Nat.add_comm _ _⟩)))
  have htaken : does = .next (doArmSnapshot r (s.taken r)) := exec_taken rfl hs hsource hshort henvelope
  rw [htaken]
  have hread : inRange → ∃ (g : Group) (t : Trigger) (cs : List Chan), fin8Of a = some g ∧ Trigger.ofByte b = some t ∧
      readChans chans = some cs := by
    rintro ⟨ha, hlow, hhigh, hchans⟩
    obtain ⟨g, hg⟩ := (exists_group_iff a).mpr ha
    obtain ⟨t, ht⟩ := (exists_trigger_iff b).mpr ⟨hlow, hhigh⟩
    obtain ⟨cs, hcs⟩ := (exists_readChans_iff chans).mpr hchans
    exact ⟨g, t, cs, hg, ht, hcs⟩
  refine ⟨fun hrange => congrArg Host.Outcome.next ?_, fun hrange hfull => congrArg Host.Outcome.next ?_,
    fun hrange hempty g t cs hg ht hcs => congrArg Host.Outcome.next ?_⟩
  · rw [doArmSnapshot_badRequest (r := r) hrange, s.answer_taken]
  · obtain ⟨g, t, cs, hg, ht, hcs⟩ := hread hrange
    rw [doArmSnapshot_read (r := r) hg ht hcs]
    exact (if_neg (fun h => hfull (eq_of_beq h))).trans (s.answer_taken r _ _)
  · obtain ⟨-, -, cs', -, -, hcs'⟩ := hread hrange
    obtain rfl : cs' = cs := List.map_injective_iff.mpr byte_chan_injective
      ((readChans_eq_some_iff.mp hcs').1.symm.trans hcs)
    rw [doArmSnapshot_read (r := r) (fin8Of_eq_some_iff.mpr hg) (Trigger.ofByte_eq_some_iff.mpr ht) hcs']
    exact (if_pos (beq_iff_eq.mpr hempty)).trans (s.answer_setSnap_taken r _ _ _)

theorem byte_toNat (b : Byte) : byte b.toNat = b := (BitVec.ofNat_toNat 8 b).trans (BitVec.setWidth_eq b)

/-! ## READ_SNAPSHOT and RELEASE_SNAPSHOT (R204, R205) -/

theorem doReleaseSnapshot_eq (r : Request) (s : State) : doReleaseSnapshot r s =
    if s.snap.state = .empty then s.answer r .done [] else (s.setSnap SnapshotUnit.reset).answer r .done [] := by
  rw [doReleaseSnapshot]
  cases s.snap.state <;> rfl

theorem doReadSnapshot_notReady {r : Request} {s : State}
    (hrange : 1 ≤ (r.param 1).toNat ∧ (r.param 1).toNat ≤ 16 ∧ (r.param 0).toNat + (r.param 1).toNat ≤ 192)
    (h : ∀ (x : Arming) (y : CaptureHeader), s.snap.state ≠ .ready x y) : doReadSnapshot r s = s.answer r .notReady [] := by
  rw [doReadSnapshot]
  refine (if_pos hrange).trans ?_
  cases hstate : s.snap.state with
  | empty => rfl
  | armed x => rfl
  | ready x y => exact absurd hstate (h x y)

theorem doReadSnapshot_ready {r : Request} {s : State}
    (hrange : 1 ≤ (r.param 1).toNat ∧ (r.param 1).toNat ≤ 16 ∧ (r.param 0).toNat + (r.param 1).toNat ≤ 192)
    {x : Arming} {y : CaptureHeader} (h : s.snap.state = .ready x y) : doReadSnapshot r s =
      s.answer r .done (snapshotData x y s.snap.buffer (r.param 0).toNat (r.param 1).toNat) := by
  rw [doReadSnapshot]
  refine (if_pos hrange).trans ?_
  rw [h]

/-- Settles O55: the range, the state, and the data of `snapshotData`. -/
theorem readAndReleaseSnapshot : Obligations.ReadAndReleaseSnapshot := by
  intro s source seq a b hs hsource r does inRange
  have htaken : does = .next (doReadSnapshot r (s.taken r)) :=
    exec_taken (r := r) rfl hs hsource (by show 2 ≤ 238; decide) rfl
  rw [htaken]
  refine ⟨fun hrange => congrArg Host.Outcome.next ?_, fun hrange hstate => congrArg Host.Outcome.next ?_,
    fun hrange x h hstate => ?_, ?_⟩
  · exact (if_neg hrange).trans (s.answer_taken r _ _)
  · rw [doReadSnapshot_notReady (r := r) (s := s.taken r) hrange hstate, s.answer_taken]
  · intro rows
    rw [doReadSnapshot_ready (r := r) (s := s.taken r) hrange hstate, s.answer_taken, snapshotData, byte_toNat]
    rfl
  · intro q
    have hq : exec (.releaseSnapshot source seq []) s = .next (doReleaseSnapshot q (s.taken q)) :=
      exec_taken (r := q) rfl hs hsource (Nat.zero_le _) rfl
    rw [hq, doReleaseSnapshot_eq]
    refine ⟨fun hempty => congrArg Host.Outcome.next ?_, fun hfull => congrArg Host.Outcome.next ?_⟩
    · exact (if_pos hempty).trans (s.answer_taken q _ _)
    · exact (if_neg hfull).trans (s.answer_setSnap_taken q _ _ _)

end Sys2Proof.Machine
end

section
/-! Table entries read back as they were written (2.1.6, R44, R53, R92, R112, R133, R134, R172). -/

namespace Sys2Proof.Machine

/-! ## Fields -/

theorem flagByte_of_flagOf {b : Byte} {x : Bool} (h : flagOf b = some x) : flagByte x = b := by
  unfold flagOf at h
  split_ifs at h with h0 h1
  · cases h
    exact h0.symm
  · cases h
    exact h1.symm

theorem byte_of_fin8Of {b : Byte} {g : Fin 8} (h : fin8Of b = some g) : byte g.val = b := (fin8Of_eq_some_iff.mp h).symm

theorem byte_of_nodeOf {b : Byte} {n : Node} (h : nodeOf b = some n) : byte (nodeAddr n) = b := by
  unfold nodeOf at h
  split_ifs at h with hrange
  cases h
  rw [nodeAddr, show b.toNat - 1 + 1 = b.toNat by omega, byte_toNat]

theorem be16_half (hi lo : Byte) : be16 (half hi lo) = [hi, lo] := by
  show [(hi ++ lo).extractLsb' 8 8, (hi ++ lo).extractLsb' 0 8] = [hi, lo]
  rw [BitVec.extractLsb'_append_eq_left, BitVec.extractLsb'_append_eq_right]

theorem beNat_half (hi lo : Byte) : beNat (half hi lo).toNat = [hi, lo] := by
  rw [beNat, BitVec.ofNat_toNat, BitVec.setWidth_eq, be16_half]

theorem beInt_half (hi lo : Byte) : beInt (half hi lo).toInt = [hi, lo] := by
  rw [beInt, BitVec.ofInt_toInt, be16_half]

theorem addrByte_addrOf {b : Byte} (h : b.toNat ≤ 63) : addrByte (addrOf b) = b := by
  refine BitVec.eq_of_toNat_eq ?_
  simp only [addrOf, addrByte, BitVec.extractLsb'_toNat, BitVec.toNat_setWidth, Nat.shiftRight_zero]
  omega

/-! ## Codes -/

theorem code_of_find {α : Type} {code : α → Byte} {l : List α} {b : Byte} {k : α}
    (h : l.find? (fun k => code k == b) = some k) : code k = b :=
  beq_iff_eq.mp (List.find?_some h :)

theorem Metric.code_of_ofByte {b : Byte} {k : Metric} (h : Metric.ofByte b = some k) : k.code = b := code_of_find h

theorem ChanKind.code_of_ofByte {b : Byte} {k : ChanKind} (h : ChanKind.ofByte b = some k) : k.code = b := code_of_find h

theorem Severity.code_of_ofByte {b : Byte} {k : Severity} (h : Severity.ofByte b = some k) : k.code = b := by
  unfold Severity.ofByte at h
  split_ifs at h <;> cases h <;> symm <;> assumption

theorem Level.code_of_ofByte {b : Byte} {k : Level} (h : Level.ofByte b = some k) : k.code = b := by
  unfold Level.ofByte at h
  split_ifs at h <;> cases h <;> symm <;> assumption

theorem VerdictMode.code_of_ofByte {b : Byte} {k : VerdictMode} (h : VerdictMode.ofByte b = some k) : k.code = b := by
  unfold VerdictMode.ofByte at h
  split_ifs at h <;> cases h <;> symm <;> assumption

theorem Direction.code_of_ofByte {b : Byte} {k : Direction} (h : Direction.ofByte b = some k) : k.code = b := by
  unfold Direction.ofByte at h
  split_ifs at h <;> cases h <;> symm <;> assumption

theorem SendMode.code_of_ofByte {b : Byte} {k : SendMode} (h : SendMode.ofByte b = some k) : k.code = b := by
  unfold SendMode.ofByte at h
  split_ifs at h <;> cases h <;> symm <;> assumption

/-! ## Entries -/

theorem MeasureRef.encode_of_read {c m o : Byte} {r : MeasureRef} (h : MeasureRef.read c m o = some r) :
    r.encode = [c, m, o] := by
  simp only [MeasureRef.read, Option.bind_eq_bind, Option.bind_eq_some_iff, Option.ite_none_right_eq_some] at h
  obtain ⟨chan, hchan, metric, hmetric, -, hr⟩ := h
  cases hr
  rw [MeasureRef.encode, byte_of_fin8Of hchan, Metric.code_of_ofByte hmetric, byte_toNat]

theorem MapEntry.encode_of_read {bs : List Byte} {e : MapEntry} (h : MapEntry.read bs = some e) : e.encode = bs := by
  unfold MapEntry.read at h
  split at h
  next v n sl g c k g1 g0 o1 o0 =>
    simp only [Option.bind_eq_bind, Option.bind_eq_some_iff] at h
    obtain ⟨valid, hvalid, node, hnode, slot, hslot, group, hgroup, chan, hchan, kind, hkind, he⟩ := h
    cases he
    simp only [MapEntry.encode, flagByte_of_flagOf hvalid, byte_of_nodeOf hnode, byte_of_fin8Of hslot, byte_of_fin8Of hgroup,
      byte_of_fin8Of hchan, ChanKind.code_of_ofByte hkind, beInt_half]
    rfl
  next => cases h

theorem LimitEntry.encode_of_read {bs : List Byte} {e : LimitEntry} (h : LimitEntry.read bs = some e) : e.encode = bs := by
  unfold LimitEntry.read at h
  split at h
  next v g c m o d l1 l0 h1 h0 r k f =>
    simp only [Option.bind_eq_bind, Option.bind_eq_some_iff, Option.dite_none_right_eq_some] at h
    obtain ⟨valid, hvalid, group, hgroup, ref, href, direction, hdirection, hrange, he⟩ := h
    cases he
    simp only [LimitEntry.encode, flagByte_of_flagOf hvalid, byte_of_fin8Of hgroup, MeasureRef.encode_of_read href,
      Direction.code_of_ofByte hdirection, beNat_half, byte_toNat]
    rfl
  next => cases h

theorem Signature.encode_of_read {bs : List Byte} {e : Signature} (h : Signature.read bs = some e) : e.encode = bs := by
  unfold Signature.read at h
  split at h
  next v gs p1 p0 c1 c0 code sv =>
    simp only [Option.bind_eq_bind, Option.bind_eq_some_iff, Option.ite_none_left_eq_some] at h
    obtain ⟨valid, hvalid, severity, hseverity, -, he⟩ := h
    cases he
    simp only [Signature.encode, flagByte_of_flagOf hvalid, Severity.code_of_ofByte hseverity, be16_half]
    rfl
  next => cases h

theorem EventEntry.encode_of_read {bs : List Byte} {e : EventEntry} (h : EventEntry.read bs = some e) : e.encode = bs := by
  unfold EventEntry.read at h
  split at h
  next r m =>
    simp only [Option.bind_eq_bind, Option.bind_eq_some_iff, Option.dite_none_right_eq_some] at h
    obtain ⟨mode, hmode, hr, he⟩ := h
    cases he
    simp only [EventEntry.encode, SendMode.code_of_ofByte hmode, byte_toNat]
  next => cases h

theorem Route.encode_of_read {bs : List Byte} {e : Route} (h : Route.read bs = some e) : e.encode = bs := by
  unfold Route.read at h
  split at h
  next v d =>
    simp only [Option.bind_eq_bind, Option.bind_eq_some_iff, Option.ite_none_right_eq_some] at h
    obtain ⟨valid, hvalid, hd, he⟩ := h
    cases he
    simp only [Route.encode, flagByte_of_flagOf hvalid, addrByte_addrOf (Nat.le_succ_of_le hd)]
  next => cases h

theorem Settings.encode_of_read {bs : List Byte} {e : Settings} (h : Settings.read bs = some e) : e.encode = bs := by
  unfold Settings.read at h
  split at h
  next pa rd ed et st c1 c0 as ac en =>
    simp only [Option.bind_eq_bind, Option.bind_eq_some_iff, Option.ite_none_right_eq_some] at h
    obtain ⟨eventTable, htable, acceptS, hs, acceptC, hc, enable, henable, ⟨hpa, hrd, hed⟩, he⟩ := h
    cases he
    simp only [Settings.encode, addrByte_addrOf hpa, addrByte_addrOf hrd, addrByte_addrOf hed, flagByte_of_flagOf htable,
      flagByte_of_flagOf hs, flagByte_of_flagOf hc, flagByte_of_flagOf henable, byte_toNat, beNat_half]
    rfl
  next => cases h

/-! ## Group Plan records (R53) -/

/-- The measure references read are as many as the count says, and their encodings the bytes read. -/
theorem readMeasures_eq_some : ∀ {n : Nat} {bs : List Byte} {rs : List MeasureRef}, readMeasures n bs = some rs →
    rs.length = n ∧ rs.flatMap MeasureRef.encode = bs.take (3 * n) ∧ 3 * n ≤ bs.length
  | 0, _, _, h => by cases h; exact ⟨rfl, rfl, Nat.zero_le _⟩
  | n + 1, c :: m :: o :: rest, rs, h => by
    simp only [readMeasures, Option.bind_eq_bind, Option.bind_eq_some_iff] at h
    obtain ⟨r, hr, l, hl, hrs⟩ := h
    cases hrs
    obtain ⟨hlength, hencode, hfit⟩ := readMeasures_eq_some hl
    refine ⟨congrArg (· + 1) hlength, ?_, ?_⟩
    · rw [List.flatMap_cons, MeasureRef.encode_of_read hr, hencode]
      rfl
    · simp only [List.length_cons]
      omega
  | n + 1, [], _, h => by cases h
  | n + 1, [_], _, h => by cases h
  | n + 1, [_, _], _, h => by cases h

/-- Two bytes of a list and what follows them. -/
theorem drop_eq_byteAt_cons {bs : List Byte} {i : Nat} (h : i + 2 ≤ bs.length) :
    bs.drop i = byteAt bs i :: byteAt bs (i + 1) :: bs.drop (i + 2) := by
  rw [List.drop_eq_getElem_cons (by omega : i < bs.length), List.drop_eq_getElem_cons (by omega : i + 1 < bs.length)]
  simp [byteAt, (by omega : i < bs.length), (by omega : i + 1 < bs.length)]

theorem Plan.encode_of_read {bs : List Byte} {e : Plan} (h : Plan.read bs = some e) :
    bs.length = 53 ∧ (byteAt bs 10).toNat ≤ 16 ∧ (byteAt bs 28).toNat ≤ 8 ∧
      e.encode = bs.take (11 + (byteAt bs 10).toNat) ++ List.replicate (16 - (byteAt bs 10).toNat) 0 ++
        ((bs.drop 27).take (2 + 3 * (byteAt bs 28).toNat) ++ List.replicate (24 - 3 * (byteAt bs 28).toNat) 0) := by
  unfold Plan.read at h
  split at h
  next en rc cc lv b1 b0 mn mx al tl oc rest =>
    simp only [Option.bind_eq_bind, Option.bind_eq_some_iff, Option.ite_none_right_eq_some, Bool.and_eq_true,
      decide_eq_true_eq] at h
    obtain ⟨enabled, hen, refChan, hrc, condChan, hcc, level, hlv, mode, hmode, measures, hmeasures, hok, he⟩ := h
    obtain ⟨⟨⟨⟨⟨⟨⟨⟨hrest, -⟩, -⟩, -⟩, -⟩, -⟩, -⟩, -, horders⟩, hcount⟩ := hok
    cases he
    obtain ⟨hlength, hencode, -⟩ := readMeasures_eq_some hmeasures
    have hbytes : ((rest.take oc.toNat).map BitVec.toNat).map byte = rest.take oc.toNat := by
      rw [List.map_map]
      exact List.map_id'' byte_toNat _
    have htaken : (rest.take oc.toNat).length = oc.toNat := by rw [List.length_take]; omega
    refine ⟨by simp [hrest], horders, hcount, ?_⟩
    show _ = List.take (11 + oc.toNat) _ ++ List.replicate (16 - oc.toNat) 0 ++
      ((rest.drop 16).take (2 + 3 * (byteAt rest 17).toNat) ++ List.replicate (24 - 3 * (byteAt rest 17).toNat) 0)
    simp only [Plan.encode, padTo, flagByte_of_flagOf hen, byte_of_fin8Of hrc, byte_of_fin8Of hcc, Level.code_of_ofByte hlv,
      VerdictMode.code_of_ofByte hmode, beNat_half, byte_toNat, hbytes, hencode, hlength, htaken, List.length_map]
    rw [drop_eq_byteAt_cons (by omega : 16 + 2 ≤ rest.length), Nat.add_comm 11, Nat.add_comm 2]
    simp
    omega
  next => cases h

/-- Settles O49: table by table. -/
theorem entriesReadBackAsWritten : Obligations.EntriesReadBackAsWritten := fun _ =>
  ⟨fun _ => MapEntry.encode_of_read, fun _ => Plan.encode_of_read, fun _ => LimitEntry.encode_of_read,
    fun _ => Signature.encode_of_read, fun _ => EventEntry.encode_of_read, fun _ => Route.encode_of_read,
    fun _ => Settings.encode_of_read⟩

end Sys2Proof.Machine
end

section
/-! The hold requests and the hold limit (R182 to R185), and RESTART_ANALYSIS (R16, R17, R165, R181, R191). -/

namespace Sys2Proof.Machine

namespace State

variable {s : State}

/-- With no commit that could complete and no reset coming, an event closes with the judgement of the hold (log 18). -/
theorem finish_of_unready (hready : s.commitReady = false) (hmark : s.links.markReset = none)
    (hrestart : s.mgmt.restartMark = false) : s.finish = s.judgeHold := by
  have hsame := SameWithin.judgeHold s
  unfold finish
  dsimp only
  rw [hsame.commitReady, hready]
  show s.judgeHold.resetIfCutOff = s.judgeHold
  unfold resetIfCutOff
  rw [hsame.markReset, hmark, hsame.restartMark, hrestart]
  rfl

theorem judgeHold_holding {h : Hold} (hh : s.mgmt.hold = some h) (he : h.effective = false) : s.judgeHold =
    if s.anyInFlight then s
    else (s.setMgmt { s.mgmt with hold := some { h with effective := true } }).offerMarker .holdEffective := by
  unfold judgeHold
  rw [hh]
  dsimp only
  rw [he]
  cases s.anyInFlight <;> rfl

theorem endHold_eq (h : Hold) (cause : HoldCause) : s.endHold h cause = { s with
    mgmt := { s.mgmt with hold := none }
    rep := ({ s.rep with waiting := s.rep.waiting.filter (fun w => w != .marker .holdEffective) } : ReportQueue).offerMarker
      s.settings.reportDest
      (.holdEnded cause (!h.effective || s.rep.waiting.any (fun w => w == .marker .holdEffective))) } := rfl

end State

@[simp] theorem Links.heardOnC_markReset (l : Links) : l.heardOnC.markReset = l.markReset := by
  rw [Links.heardOnC]
  split <;> rfl

/-! ## HOLD and RELEASE (R182 to R185) -/

theorem doHold_badRequest {r : Request} {s : State} (h : r.kinds.toNat = 0 ∨ 60000 < r.kinds.toNat) :
    doHold r s = s.answer r .badRequest [] :=
  if_pos h

theorem doHold_busy {r : Request} {s : State} (h : ¬ (r.kinds.toNat = 0 ∨ 60000 < r.kinds.toNat))
    (hheld : s.mgmt.hold ≠ none) : doHold r s = s.answer r .busy [] :=
  (if_neg h).trans (if_pos (Option.isSome_iff_ne_none.mpr hheld))

theorem doHold_accepted {r : Request} {s : State} (h : ¬ (r.kinds.toNat = 0 ∨ 60000 < r.kinds.toNat))
    (hfree : s.mgmt.hold = none) : doHold r s =
      ((s.setMgmt { s.mgmt with hold := some ⟨false, 0, r.kinds.toNat⟩ }).answer r .accepted []).finish :=
  (if_neg h).trans (if_neg (by rw [hfree]; exact Bool.false_ne_true))

/-- Settles O51: the expiry and RELEASE are `endHold`, and HOLD's event closes with the judgement of the new hold. -/
theorem holdReleaseAndExpiry : Obligations.HoldReleaseAndExpiry := by
  refine ⟨fun s hheld => ?_, fun s source seq hi lo hs hsource => ?_⟩
  · have hrun : exec .holdExpiry s = .next s.holdExpires := by
      refine congrArg Host.Outcome.next ?_
      rw [State.running, s.isHeld_eq_false_iff.mpr hheld]
      rfl
    rw [hrun, State.holdExpires]
    refine ⟨fun hfree => ?_, fun h hh => ?_⟩
    · rw [hfree]
    · rw [hh]
      rfl
  · intro limit r q rep
    have hr : exec (.hold source seq [hi, lo]) s = .next (doHold r (s.taken r)) :=
      exec_taken (r := r) rfl hs hsource (by show 2 ≤ 238; decide) rfl
    have hq : exec (.release source seq []) s = .next (doRelease q (s.taken q)) :=
      exec_taken (r := q) rfl hs hsource (Nat.zero_le _) rfl
    rw [hr, hq]
    have hrange : 1 ≤ limit → limit ≤ 60000 → ¬ (r.kinds.toNat = 0 ∨ 60000 < r.kinds.toNat) := fun hlow hhigh => by
      show ¬ (limit = 0 ∨ 60000 < limit)
      omega
    refine ⟨fun h => ?_, fun hlow hhigh hheld => ?_, fun hlow hhigh hfree hready hrestart => congrArg Host.Outcome.next ?_,
      fun hfree => ?_, fun h hh => congrArg Host.Outcome.next ?_⟩
    · rw [doHold_badRequest (r := r) h, s.answer_taken]
    · rw [doHold_busy (s := s.taken r) (hrange hlow hhigh) hheld, s.answer_taken]
    · rw [doHold_accepted (s := s.taken r) (hrange hlow hhigh) hfree, s.answer_setMgmt_taken r _ rfl]
      refine (State.finish_of_unready ?_ (s.links.heardOnC_markReset.trans hs.1.2.1) ?_).trans ?_
      · exact hready
      · exact hrestart
      rw [State.judgeHold_holding (h := ⟨false, 0, r.kinds.toNat⟩) rfl rfl]
      have hflight : ({ s.answered r .accepted [] with
          mgmt := { (s.taken r).mgmt with hold := some ⟨false, 0, r.kinds.toNat⟩, request := s.rep.inProgress r } }
            : State).anyInFlight = s.anyInFlight := rfl
      rw [hflight]
      cases s.anyInFlight <;> rfl
    · rw [doRelease, show (s.taken q).mgmt.hold = none from hfree]
      exact congrArg Host.Outcome.next (s.answer_taken q _ _)
    · rw [doRelease, show (s.taken q).mgmt.hold = some h from hh]
      show ((s.taken q).answer q .done []).endHold h .request = _
      rw [s.answer_taken, State.endHold_eq]
      rfl

end Sys2Proof.Machine
end

section
/-! RESTART_ANALYSIS (R16, R17, R165, R181, R191), and the restart that completes a pending commit (R181). -/

namespace Sys2Proof.Machine
namespace State

variable {s : State}

/-! ## The restart of a pending commit (R181) -/

/-- A group switches at a restart when its flag is clear, and counts as forced (R181). -/
def switchCounted (s : State) (g : Group) : State :=
  if s.switchPending g then
    let s1 := s.switchGroup g
    s1.setMgmt { s1.mgmt with commit := s1.mgmt.commit.map (fun c => { c with forced := c.forced + 1 }) }
  else s

theorem switchRemaining_eq (s : State) : s.switchRemaining = all8.foldl switchCounted s := rfl

theorem switchPending_eq {c : Commit} (h : s.mgmt.commit = some c) (g : Group) :
    s.switchPending g = !GroupSet.has c.switched g := by
  rw [switchPending, h]

theorem switchCounted_mgmt {c : Commit} (h : s.mgmt.commit = some c) (g : Group) : (s.switchCounted g).mgmt =
    if GroupSet.has c.switched g = true then s.mgmt
    else { s.mgmt with commit := some { c with switched := GroupSet.set c.switched g, forced := c.forced + 1 } } := by
  unfold switchCounted
  rw [switchPending_eq h]
  cases GroupSet.has c.switched g
  · show (State.setMgmt _ _).mgmt = _
    rw [setMgmt_mgmt, switchGroup_mgmt h]
    rfl
  · rfl

/-- Groups that switch one after the other are counted once each, as their flags stood. -/
theorem foldl_switchCounted_mgmt : ∀ (gs : List Group) {s : State} {c : Commit}, gs.Nodup → s.mgmt.commit = some c →
    ∃ x : GroupSet, (gs.foldl switchCounted s).mgmt = { s.mgmt with commit := some { c with
      switched := x, forced := c.forced + (gs.filter (fun g => !GroupSet.has c.switched g)).length } }
  | [], s, c, _, h => ⟨c.switched, by rw [List.foldl_nil, List.filter_nil, List.length_nil, Nat.add_zero, ← h]⟩
  | g :: gs, s, c, hnodup, h => by
    obtain ⟨hnew, hrest⟩ := List.nodup_cons.mp hnodup
    have hmgmt := switchCounted_mgmt h g
    rw [List.foldl_cons, List.filter_cons]
    cases hflag : GroupSet.has c.switched g with
    | true =>
      rw [hflag, if_pos rfl] at hmgmt
      obtain ⟨x, hx⟩ := foldl_switchCounted_mgmt gs hrest (hmgmt ▸ h)
      exact ⟨x, by rw [hx, hmgmt]; rfl⟩
    | false =>
      rw [hflag, if_neg Bool.false_ne_true] at hmgmt
      obtain ⟨x, hx⟩ := foldl_switchCounted_mgmt gs hrest (congrArg Management.commit hmgmt)
      have hsame : gs.filter (fun k => !GroupSet.has (GroupSet.set c.switched g) k) =
          gs.filter (fun k => !GroupSet.has c.switched k) := by
        refine List.filter_congr (fun k hk => ?_)
        rw [GroupSet.has_set, decide_eq_false (fun e : g = k => hnew (e ▸ hk)), Bool.or_false]
      refine ⟨x, ?_⟩
      rw [if_pos (by rfl), List.length_cons, Nat.add_comm (List.length _) 1, ← Nat.add_assoc, hx, hmgmt, hsame]

theorem switchRemaining_mgmt {c : Commit} (h : s.mgmt.commit = some c) :
    ∃ x : GroupSet, s.switchRemaining.mgmt = { s.mgmt with commit := some { c with
      switched := x, forced := c.forced + (all8.filter (fun g => !GroupSet.has c.switched g)).length } } :=
  foldl_switchCounted_mgmt all8 (List.nodup_finRange 8) h

/-- A restart completes a pending commit first, with every group switched (R181): the blocks then restart with the new
bank and generation, and COMMIT_DONE stands ahead of the reply to the request that caused the restart (R165, R191). -/
theorem takeRestart_of_pending {c : Commit} (h : s.mgmt.commit = some c) (r : Option Request) : ∃ u : State,
    u.mgmt = { s.mgmt with active := s.mgmt.staging, activeGen := c.stagingGen, commit := none } ∧
    s.takeRestart r = ((u.restartBlocks.offerMarker (.commitDone c.stagingGen
      (c.forced + (all8.filter (fun g => !GroupSet.has c.switched g)).length))).answerRestart r).raiseDeferred
        s.links.refusalDeferred := by
  obtain ⟨x, hmgmt⟩ := switchRemaining_mgmt h
  have hcommit : s.switchRemaining.mgmt.commit = _ := congrArg Management.commit hmgmt
  refine ⟨(s.switchRemaining.adoptStaging { c with
    switched := x, forced := c.forced + (all8.filter (fun g => !GroupSet.has c.switched g)).length }).applySettings
      s.settings, ?_, ?_⟩
  · rw [applySettings_idle s.settings rfl]
    show { s.switchRemaining.mgmt with
      active := s.switchRemaining.mgmt.staging, activeGen := c.stagingGen, commit := none } = _
    rw [hmgmt]
  · unfold takeRestart
    dsimp only
    rw [hcommit]

/-- The records that are owed after a restart that completed a commit (R165, R191). -/
theorem restartBlocks_replied (u : State) (m : Marker) (r : Request) (deferred : Bool) :
    ((u.restartBlocks.offerMarker m).answerRestart (some r)).raiseDeferred deferred = { u.restartBlocks with
      rep := ⟨[⟨u.settings.reportDest, .marker m⟩, ⟨r.source, .reply ⟨r.seq, r.code, .done, []⟩⟩], 0, []⟩
      disp := if deferred then u.disp.restart.raise .resetMarkRefused else u.disp.restart } := by
  have hanswered : (u.restartBlocks.offerMarker m).answerRestart (some r) = { u.restartBlocks with
      rep := ⟨[⟨u.settings.reportDest, .marker m⟩, ⟨r.source, .reply ⟨r.seq, r.code, .done, []⟩⟩], 0, []⟩ } :=
    (u.restartBlocks.offerMarker m).answer_spec r .done []
  rw [hanswered]
  cases deferred <;> rfl

end State

/-! ## RESTART_ANALYSIS (R16, R17, R191) -/

theorem flagOf_eq_none {b : Byte} (h : 1 < b.toNat) : flagOf b = none := by
  have h0 : b ≠ 0 := by rintro rfl; exact absurd h (by decide)
  have h1 : b ≠ 1 := by rintro rfl; exact absurd h (by decide)
  rw [flagOf, if_neg h0, if_neg h1]

/-- The reset mask timer that RESTART_ANALYSIS leaves (R16). -/
theorem Links.mask_heardOnC_ite (l : Links) {a : Byte} (h : a ≠ 1) :
    { l.heardOnC with mask := if a = 1 then some 0 else l.mask } = l.heardOnC := by
  rw [if_neg h, ← l.heardOnC_reads.2.2.2.2]

/-- Settles O53: without a mark to send the restart is `takeRestart`, with one it waits for the mark. -/
theorem restartAnalysis : Obligations.RestartAnalysis := by
  intro s source seq a hs hsource r does heard reply
  have htaken : does = .next (doRestartAnalysis r (s.taken r)) :=
    exec_taken (r := r) rfl hs hsource (by show 1 ≤ 238; decide) rfl
  rw [htaken]
  refine ⟨fun ha => ?_, fun ha => ?_, fun ha hup => ?_⟩
  · rw [doRestartAnalysis, show flagOf (r.param 0) = none from flagOf_eq_none ha]
    exact congrArg Host.Outcome.next (s.answer_taken r _ _)
  · have hrestart : doRestartAnalysis r (s.taken r) =
        (heard.setMgmt { s.mgmt with request := some r }).takeRestart (some r) := by
      rw [doRestartAnalysis]
      obtain rfl | ⟨rfl, hdown⟩ := ha
      · have hmask : s.taken r = heard.setMgmt { s.mgmt with request := some r } :=
          congrArg (fun l => ({ s with links := l, mgmt := { s.mgmt with request := some r } } : State))
            (s.links.mask_heardOnC_ite (a := 0) (by decide)).symm
        rw [← hmask]
        rfl
      · refine if_neg (fun hup => hdown ?_)
        rw [← s.links.heardOnC_reads.1]
        exact ((s.taken r).startMask.isUp_iff .s).mp hup
    rw [hrestart]
    refine ⟨fun hidle => ?_, fun c hc => ?_⟩
    · have hidle' : (heard.setMgmt { s.mgmt with request := some r }).mgmt.commit = none := hidle
      obtain ⟨buffers, sources, groups, engine, limits, latches, events, control, snapshot, ports, links, queue⟩ :=
        State.restartedFrom_takeRestart hidle' (some r)
      exact ⟨_, rfl, ⟨buffers, sources, groups, engine, limits, latches, events, control, snapshot, ports, links, queue⟩,
        (congrArg State.rep (State.takeRestart_eq hidle' (some r)) :)⟩
    · have hc' : (heard.setMgmt { s.mgmt with request := some r }).mgmt.commit = some c := hc
      obtain ⟨u, hmgmt, htake⟩ := State.takeRestart_of_pending hc' (some r)
      rw [htake, State.restartBlocks_replied]
      have hgroup : ∀ g : Group, (u.restartBlocks.group g).gen = c.stagingGen := fun g => by
        rw [u.group_restartBlocks, hmgmt]
        rfl
      refine ⟨_, rfl, ?_, rfl, ?_, ?_, fun g => ⟨hgroup g, ?_, ?_⟩, ?_⟩
      · exact congrArg Management.commit hmgmt
      · exact congrArg Management.activeGen hmgmt
      · exact congrArg Management.active hmgmt
      · exact Vector.getElem_replicate _
      · exact Vector.getElem_replicate _
      · have hdest : u.settings = s.mgmt.staging.settings := congrArg (fun m => m.active.settings) hmgmt
        rw [hdest]
  · subst ha
    have hsup : (s.taken r).startMask.isUp .s = true := by
      refine ((s.taken r).startMask.isUp_iff .s).mpr ?_
      show s.links.heardOnC.s.link = .up
      rw [s.links.heardOnC_reads.1]
      exact hup
    refine congrArg Host.Outcome.next ((if_pos hsup).trans ?_)
    show _ = ({ s with links := { s.links.heardOnC with mask := some 0, s := _ }, mgmt := _ } : State)
    rw [← s.links.heardOnC_reads.1]
    rfl

end Sys2Proof.Machine
end

section
/-! The end of an evaluation, step by step (R88 to R91, R98 to R101, R114, R115, R153, R154, R198 to R200). -/

namespace Sys2Proof.Machine

/-! ## Rows -/

@[simp] theorem getElem_vtab {α : Type} {n : Nat} (f : Nat → α) (i : Nat) (hi : i < n) : (vtab n f)[i] = f i := by
  simp [vtab]

@[simp] theorem getElem_vzip {α β γ : Type} {n : Nat} (f : α → β → γ) (v : Vector α n) (w : Vector β n) (i : Nat)
    (hi : i < n) : (vzip f v w)[i] = f v[i] w[i] := by
  simp [vzip]

/-! ## Markers offered (R156) -/

/-- A merge changes one waiting marker of the kind, and that in its place (R156). -/
theorem exists_of_mergeWaiting {m : Marker} : ∀ {l k : List Waiting}, mergeWaiting m l = some k →
    ∃ (before after : List Waiting) (w : Marker), w.sameKind m = true ∧ l = before ++ .marker w :: after ∧
      k = before ++ .marker (w.merge m) :: after
  | [], _, h => by cases h
  | .marker w :: l, k, h => by
    rw [mergeWaiting] at h
    split at h
    next hw =>
      cases h
      exact ⟨[], l, w, hw, rfl, rfl⟩
    next =>
      obtain ⟨k', hk, rfl⟩ := Option.map_eq_some_iff.mp h
      obtain ⟨before, after, x, hx, rfl, rfl⟩ := exists_of_mergeWaiting hk
      exact ⟨.marker w :: before, after, x, hx, rfl, rfl⟩
  | .reply d r :: l, k, h => by
    obtain ⟨k', hk, rfl⟩ := Option.map_eq_some_iff.mp h
    obtain ⟨before, after, x, hx, rfl, rfl⟩ := exists_of_mergeWaiting hk
    exact ⟨.reply d r :: before, after, x, hx, rfl, rfl⟩

namespace ReportQueue

variable (q : ReportQueue) (dest : Addr) (m : Marker)

/-- A marker offered enters behind the records, or changes the waiting order alone. -/
theorem offerMarker_cases : q.offerMarker dest m = { q with records := q.records ++ [⟨dest, .marker m⟩] } ∨
    ∃ waiting, q.offerMarker dest m = { q with waiting := waiting } := by
  by_cases h : q.records.length < 64
  · exact .inl (offerMarker_room h dest m)
  · exact .inr ⟨_, offerMarker_full (Nat.not_lt.mp h) dest m⟩

theorem offerMarker_records : ∃ rest, (q.offerMarker dest m).records = q.records ++ rest := by
  obtain h | ⟨waiting, h⟩ := q.offerMarker_cases dest m
  · exact ⟨_, congrArg records h⟩
  · exact ⟨[], (congrArg records h).trans (List.append_nil _).symm⟩

theorem offerMarker_verdicts : (q.offerMarker dest m).verdicts = q.verdicts := by
  obtain h | ⟨waiting, h⟩ := q.offerMarker_cases dest m
  · rw [h]
    exact q.verdicts_append_marker dest m
  · rw [h]
    rfl

theorem offerMarker_dropCount : (q.offerMarker dest m).dropCount = q.dropCount := by
  obtain h | ⟨waiting, h⟩ := q.offerMarker_cases dest m <;> rw [h]

/-- A marker that meets a full queue waits, of a kind whose merges take the later parameters. -/
theorem mem_waiting_of_full {q : ReportQueue} (h : 64 ≤ q.records.length) (dest : Addr) {m : Marker}
    (hm : ∀ w : Marker, w.merge m = m) : .marker m ∈ (q.offerMarker dest m).waiting := by
  rw [offerMarker_full h]
  show _ ∈ (mergeWaiting m q.waiting).getD _
  cases hmerge : mergeWaiting m q.waiting with
  | none => exact List.mem_append_right _ (List.mem_singleton.mpr rfl)
  | some k =>
    obtain ⟨before, after, w, -, -, rfl⟩ := exists_of_mergeWaiting hmerge
    simp [hm w]

/-- A waiting marker goes on waiting when one that does not merge with it is offered. -/
theorem mem_waiting_offerMarker {q : ReportQueue} {x m : Marker} (h : .marker x ∈ q.waiting) (dest : Addr)
    (hm : x.sameKind m = false) : .marker x ∈ (q.offerMarker dest m).waiting := by
  by_cases hroom : q.records.length < 64
  · rw [offerMarker_room hroom]
    exact h
  · rw [offerMarker_full (Nat.not_lt.mp hroom)]
    show _ ∈ (mergeWaiting m q.waiting).getD _
    cases hmerge : mergeWaiting m q.waiting with
    | none => exact List.mem_append_left _ h
    | some k =>
      obtain ⟨before, after, w, hw, hwaiting, rfl⟩ := exists_of_mergeWaiting hmerge
      have hne : x ≠ w := fun e => by rw [e, hw] at hm; cases hm
      rw [hwaiting] at h
      simpa [hne] using Or.imp_right Or.inr (by simpa [hne] using h)

/-- The records of a queue with more behind them (R152). -/
def Behind (q p : ReportQueue) : Prop := ∃ rest, q.records = p.records ++ rest

theorem Behind.refl (q : ReportQueue) : q.Behind q := ⟨[], (List.append_nil _).symm⟩

theorem Behind.trans {r q p : ReportQueue} (h : r.Behind q) (k : q.Behind p) : r.Behind p := by
  obtain ⟨l, hl⟩ := h
  obtain ⟨m, hm⟩ := k
  exact ⟨m ++ l, by rw [hl, hm, List.append_assoc]⟩

/-- A marker stands among the records behind those of an earlier queue, or waits. -/
def Added (q p : ReportQueue) (m : Marker) : Prop :=
  ∃ rest, q.records = p.records ++ rest ∧ ((∃ x ∈ rest, x.record = .marker m) ∨ .marker m ∈ q.waiting)

section
variable {r q p : ReportQueue} {m x : Marker}

theorem Added.behind (h : q.Added p m) : q.Behind p := by
  obtain ⟨rest, hrest, -⟩ := h
  exact ⟨rest, hrest⟩

theorem Added.shows (h : q.Added p m) : q.Shows m := by
  obtain ⟨rest, hrest, hm⟩ := h
  refine hm.imp_left (fun ⟨y, hy, hm⟩ => ⟨y, ?_, hm⟩)
  rw [hrest]
  exact List.mem_append_right _ hy

theorem Added.before (h : r.Added q m) (k : q.Behind p) : r.Added p m := by
  obtain ⟨rest, hrest, hm⟩ := h
  obtain ⟨more, hmore⟩ := k
  exact ⟨more ++ rest, by rw [hrest, hmore, List.append_assoc],
    hm.imp_left (fun ⟨y, hy, hm⟩ => ⟨y, List.mem_append_right _ hy, hm⟩)⟩

/-- A marker of a kind whose merges take the later parameters stands in the queue or waits, once it has been offered. -/
theorem added_offerMarker (q : ReportQueue) (dest : Addr) (hm : ∀ w : Marker, w.merge m = m) :
    (q.offerMarker dest m).Added q m := by
  by_cases h : q.records.length < 64
  · rw [offerMarker_room h]
    exact ⟨_, rfl, .inl ⟨_, List.mem_singleton.mpr rfl, rfl⟩⟩
  · obtain ⟨rest, hrest⟩ := q.offerMarker_records dest m
    exact ⟨rest, hrest, .inr (mem_waiting_of_full (Nat.not_lt.mp h) dest hm)⟩

theorem shows_offerMarker (q : ReportQueue) (dest : Addr) (hm : ∀ w : Marker, w.merge m = m) :
    (q.offerMarker dest m).Shows m :=
  (q.added_offerMarker dest hm).shows

/-- What stands among the records behind or waits stays there when a marker that does not merge with it is offered. -/
theorem Added.offerMarker (h : q.Added p x) (dest : Addr) (hm : x.sameKind m = false) : (q.offerMarker dest m).Added p x := by
  obtain ⟨rest, hrest, hx⟩ := h
  obtain ⟨more, hmore⟩ := q.offerMarker_records dest m
  exact ⟨rest ++ more, by rw [hmore, hrest, List.append_assoc],
    hx.imp (fun ⟨y, hy, hrecord⟩ => ⟨y, List.mem_append_left _ hy, hrecord⟩)
      (fun hwaits => mem_waiting_offerMarker hwaits dest hm)⟩

end

end ReportQueue

/-! ## Step 4: the Snapshot Unit is told (R197 to R200) -/

theorem Arming.met_iff (a : Arming) (d : Descriptor) (raised latchSet : Bool) :
    a.met d.number raised latchSet = true ↔ d.Meets a (raised = true) (latchSet = true) := by
  have hodd : d.number.getLsbD 0 = decide (d.number.toNat % 2 = 1) := Nat.testBit_zero _
  unfold Arming.met Descriptor.Meets laterThan
  cases a.trigger <;> simp [-BitVec.getLsbD_eq_getElem, hodd]

namespace State

variable {s t : State}

/-- Step 4 changes the Snapshot Unit and offers a marker (R198). -/
theorem tellSnapshot_frame (s : State) (w : WinRef) (d : Descriptor) (o : WinOutcome) (a b : Bool) :
    { s.tellSnapshot w d o a b with snap := s.snap, rep := s.rep } = s ∧
      ((s.tellSnapshot w d o a b).rep = s.rep ∨
        (s.tellSnapshot w d o a b).rep = s.rep.offerMarker s.settings.reportDest (.snapshot true)) := by
  unfold tellSnapshot
  split
  · split
    · exact ⟨rfl, .inr rfl⟩
    · exact ⟨rfl, .inl rfl⟩
  all_goals exact ⟨rfl, .inl rfl⟩

theorem copyCell_some (b : Bank) (w : WinRef) (d : Descriptor) (store : Vector Cells 8) (n : Nat) (c : Chan) :
    copyCell b w d store n (some c) = if (b.entryOf w.group c).isSome ∧ n < d.len.getD 0 then
      present? store[c] (d.start + BitVec.ofNat 16 n) else none :=
  if_congr (by rw [Bool.and_eq_true, decide_eq_true_eq, Bank.mapped]) rfl rfl

theorem getElem_copyWindow (b : Bank) (w : WinRef) (d : Descriptor) (store : Vector Cells 8) (chans : List Chan)
    (i : Fin 192) (k : Fin 4) : (copyWindow b w d store chans)[i][k] = copyCell b w d store i.val chans[k.val]? := by
  rw [copyWindow, Fin.getElem_fin, Fin.getElem_fin, getElem_vtab, getElem_vtab]

theorem tellSnapshot_snapshotTold (s : State) (w : WinRef) (o : WinOutcome) (raised latchSet : Bool) :
    (s.tellSnapshot w (s.group w.group).descs[w.desc] o raised latchSet).SnapshotTold s w o (raised = true)
      (latchSet = true) := by
  constructor
  · intro a ha hg d hmeets
    have hmet : (a.group == w.group && a.met d.number raised latchSet) = true := by
      rw [Bool.and_eq_true]
      exact ⟨beq_iff_eq.mpr hg, (a.met_iff d raised latchSet).mpr hmeets⟩
    have htell : s.tellSnapshot w d o raised latchSet = s.takeCapture a w d o := by
      unfold tellSnapshot
      rw [ha]
      exact if_pos hmet
    rw [htell]
    refine ⟨rfl, ReportQueue.shows_offerMarker _ _ (fun w => by cases w <;> rfl), fun i k => ?_⟩
    refine (getElem_copyWindow (s.bankOf d.tag) w d (s.group w.group).store a.chans i k).trans ?_
    cases a.chans[k.val]? with
    | none => rfl
    | some c => exact copyCell_some (s.bankOf d.tag) w d (s.group w.group).store i.val c
  · intro h
    unfold tellSnapshot
    split
    next a ha =>
      refine congrArg State.snap (if_neg (fun hc => ?_) : _ = s)
      rw [Bool.and_eq_true, beq_iff_eq] at hc
      exact h a ha hc.1 ((a.met_iff _ raised latchSet).mp hc.2)
    all_goals rfl

/-! ## Step 3: the verdict (R90, R91, R153, R154) -/

theorem verdictCode_eq (s : State) (g : Group) : s.verdictCode g = ((s.latch g).map Diagnosis.code).getD 0 := by
  rw [verdictCode]
  cases s.latch g <;> rfl

theorem verdictDue_iff (s : State) (v : WindowView) : s.verdictDue v = true ↔ v.bank.plans[v.group].mode = .every ∨
    (v.bank.plans[v.group].mode = .onChange ∧
      s.ana.lastVerdicts[v.group] ≠ some (s.vector v.group, ((s.latch v.group).map Diagnosis.code).getD 0)) := by
  rw [verdictDue, verdictCode_eq]
  cases v.bank.plans[v.group].mode <;> simp

/-- Step 3 touches the Report Queue, the last verdict and REPORT_DROP only. -/
theorem giveVerdict_frame (s : State) (v : WindowView) (d : Descriptor) (o : WinOutcome) :
    { s.giveVerdict v d o with
      rep := s.rep, disp := s.disp, ana := { (s.giveVerdict v d o).ana with lastVerdicts := s.ana.lastVerdicts } } = s := by
  unfold giveVerdict offerVerdict
  dsimp only
  split
  · split <;> rfl
  · rfl

theorem giveVerdict_verdictGiven (s : State) (w : WinRef) (o : WinOutcome) :
    (s.giveVerdict (s.viewOf w) (s.group w.group).descs[w.desc] o).VerdictGiven s w o s.disp := by
  by_cases hdue : s.VerdictDue s w
  · have hgiven : s.giveVerdict (s.viewOf w) (s.group w.group).descs[w.desc] o =
        s.offerVerdict (s.verdictOf (s.viewOf w) (s.group w.group).descs[w.desc] o) :=
      if_pos ((s.verdictDue_iff _).mpr hdue)
    by_cases hroom : s.rep.records.length < 60
    · have hentered := hgiven.trans (if_pos (decide_eq_true hroom))
      have hverdict : { s.verdictOf (s.viewOf w) (s.group w.group).descs[w.desc] o with
          dropped := if s.rep.dropCount = 0 then none else some s.rep.dropCount } = s.verdictWith s w o := by
        simp only [verdictOf, verdictCode_eq]
        rfl
      rw [hentered]
      refine ⟨fun _ _ => ⟨⟨[], ?_⟩, rfl, ?_⟩, fun _ h => absurd hroom (Nat.not_lt.mpr h), fun h => absurd hdue h,
        (if_neg (fun h => absurd hroom (Nat.not_lt.mpr h.2))).symm⟩
      · exact congrArg (fun v => s.rep.records ++ [(⟨s.settings.reportDest, .verdict v⟩ : Held)]) hverdict
      · exact congrArg (fun c => s.ana.lastVerdicts.set w.group (some (s.vector w.group, c))) (s.verdictCode_eq w.group)
    · have hrefused := hgiven.trans (if_neg (fun h => hroom (of_decide_eq_true h)))
      rw [hrefused]
      exact ⟨fun _ h => absurd h hroom, fun _ _ => ⟨rfl, rfl, rfl⟩, fun h => absurd hdue h,
        (if_pos ⟨hdue, Nat.not_lt.mp hroom⟩).symm⟩
  · have hkept : s.giveVerdict (s.viewOf w) (s.group w.group).descs[w.desc] o = s :=
      if_neg (fun h => hdue ((s.verdictDue_iff _).mp h))
    rw [hkept]
    exact ⟨fun h => absurd h hdue, fun h => absurd h hdue, fun _ => ⟨rfl, rfl, rfl⟩, (if_neg (fun h => hdue h.1)).symm⟩

/-! ## Step 5: the engine released (R77, R89) -/

/-- An idle engine takes the head of the queue, and changes nothing but the windows (R77). -/
theorem engineTake_idle (h : s.ana.engine = none) : s.engineTake.ana.engine.map Evaluation.win = s.ana.queue.head? ∧
    s.engineTake.ana.queue = s.ana.queue.tail ∧ s.engineTake.ana.lastVerdicts = s.ana.lastVerdicts ∧
    { s.engineTake with ana := s.ana } = s := by
  unfold engineTake
  rw [h]
  cases hq : s.ana.queue with
  | nil => exact ⟨by rw [h]; rfl, hq, rfl, rfl⟩
  | cons w rest => exact ⟨rfl, rfl, rfl, rfl⟩

/-- With no hold, and the group not QUIESCING, step 5 frees the descriptor and hands the engine on. -/
theorem release_eq {w : WinRef} (hfree : s.mgmt.hold = none) (hstate : (s.group w.group).state ≠ .quiescing) :
    s.release w = ((s.freeDesc w).setAna { (s.freeDesc w).ana with engine := none }).engineTake := by
  have hheld : ((s.freeDesc w).setAna { (s.freeDesc w).ana with engine := none }).mgmt.hold = none := hfree
  have hkept : ((((s.freeDesc w).setAna { (s.freeDesc w).ana with engine := none })).group w.group).state ≠ .quiescing := by
    show ((s.freeDesc w).group w.group).state ≠ .quiescing
    rw [s.state_freeDesc]
    exact hstate
  unfold release
  dsimp only
  rw [judgeHold_of_free hheld, judgeQuiesced, beq_false_of_ne hkept]
  rfl

theorem release_frame {w : WinRef} (hfree : s.mgmt.hold = none) (hstate : (s.group w.group).state ≠ .quiescing) :
    { s.release w with ana := s.ana } = s ∧ (s.release w).ana.lastVerdicts = s.ana.lastVerdicts := by
  rw [release_eq hfree hstate]
  obtain ⟨-, -, hlast, hrest⟩ :=
    engineTake_idle (s := (s.freeDesc w).setAna { (s.freeDesc w).ana with engine := none }) rfl
  exact ⟨(congrArg (fun x : State => ({ x with ana := s.ana } : State)) hrest :), hlast⟩

theorem release_engineReleased {w : WinRef} (hfree : s.mgmt.hold = none) (hstate : (s.group w.group).state ≠ .quiescing)
    (hqueue : w ∉ s.ana.queue) : (s.release w).EngineReleased s w := by
  rw [release_eq hfree hstate]
  obtain ⟨hengine, htail, -, -⟩ :=
    engineTake_idle (s := (s.freeDesc w).setAna { (s.freeDesc w).ana with engine := none }) rfl
  refine ⟨?_, hengine, htail⟩
  obtain h | ⟨hin, -⟩ := stateOf_engineTake ((s.freeDesc w).setAna { (s.freeDesc w).ana with engine := none }) w
  · exact h.trans ((s.stateOf_freeDesc w w).trans (if_pos rfl))
  · exact absurd hin hqueue

/-! ## Steps 1 and 2 leave the windows and control alone -/

theorem raiseAll_frame (s : State) (l : Raisings) : { s.raiseAll l with disp := s.disp } = s ∧
    (s.raiseAll l).disp = l.foldl (fun (q : Dispatcher) m => q.raiseDetail m.1 m.2) s.disp := by
  unfold raiseAll
  induction l generalizing s with
  | nil => exact ⟨rfl, rfl⟩
  | cons r l ih =>
    obtain ⟨hrest, hdisp⟩ := ih (s.raiseDetail r.1 r.2)
    exact ⟨(congrArg (fun x : State => ({ x with disp := s.disp } : State)) hrest :), hdisp⟩

theorem stepLimits_frame (s : State) (v : WindowView) (n : Half) :
    { s.stepLimits v n with chk := s.chk, disp := s.disp } = s := by
  unfold stepLimits
  have h := (raiseAll_frame ((s.setLimitStates v.group (steppedStates v (s.groupBank v.group).limits
    (s.limitStates v.group))).refreshVector v.group) (s.stepRaisings v n)).1
  have h' := congrArg (fun x : State => ({ x with chk := s.chk, disp := s.disp } : State)) h
  refine h'.trans ?_
  rw [setLimitStates_eq]
  rfl

theorem updateLatch_frame (s : State) (g : Group) (n : Half) :
    { s.updateLatch g n with latches := s.latches, pins := s.pins, disp := s.disp } = s := by
  unfold updateLatch
  split
  · split <;> rfl
  all_goals rfl

theorem checkWindow_frame (s : State) (v : WindowView) (n : Half) (o : WinOutcome) :
    { s.checkWindow v n o with chk := s.chk, latches := s.latches, pins := s.pins, disp := s.disp } = s := by
  unfold checkWindow
  split
  · have h := updateLatch_frame (s.stepLimits v n) v.group n
    have h' := congrArg (fun x : State => ({ x with chk := s.chk, latches := s.latches, pins := s.pins, disp := s.disp } : State)) h
    refine h'.trans ?_
    have hs := stepLimits_frame s v n
    have hs' := congrArg (fun x : State => ({ x with latches := s.latches, pins := s.pins } : State)) hs
    exact hs'
  · rfl

/-! ## The hand-off (R89) -/

/-- What the hand-off has changed in steps 1 and 2, of a window with the outcome its view and its descriptor give. -/
def checkedOf (s : State) (w : WinRef) : State :=
  s.checkWindow (s.viewOf w) (s.group w.group).descs[w.desc].number
    ((s.viewOf w).outcome (s.group w.group).descs[w.desc] (s.group w.group).gen)

/-- The state the hand-off has after the verdict (R89). -/
def verdictOfWindow (s : State) (w : WinRef) : State :=
  (s.checkedOf w).giveVerdict (s.viewOf w) (s.group w.group).descs[w.desc]
    ((s.viewOf w).outcome (s.group w.group).descs[w.desc] (s.group w.group).gen)

/-- The state the hand-off has when step 5 begins (R89). -/
def toldOf (s : State) (w : WinRef) : State :=
  let d := (s.group w.group).descs[w.desc]
  let outcome := (s.viewOf w).outcome d (s.group w.group).gen
  (s.verdictOfWindow w).tellSnapshot w d outcome (s.raiseIndication (s.viewOf w) d.number outcome)
    (s.setIndication (s.viewOf w) d.number outcome)

theorem handOff_eq (s : State) (w : WinRef) : s.handOff w = (s.toldOf w).release w := rfl

theorem checkedOf_frame (s : State) (w : WinRef) :
    { s.checkedOf w with chk := s.chk, latches := s.latches, pins := s.pins, disp := s.disp } = s :=
  s.checkWindow_frame _ _ _

theorem verdictOfWindow_given (s : State) (w : WinRef) : (s.verdictOfWindow w).VerdictGiven s w
    ((s.viewOf w).outcome (s.group w.group).descs[w.desc] (s.group w.group).gen) (s.checkedOf w).disp := by
  unfold verdictOfWindow
  have hframe := s.checkedOf_frame w
  generalize (s.viewOf w).outcome (s.group w.group).descs[w.desc] (s.group w.group).gen = o
  generalize s.checkedOf w = u at hframe
  obtain ⟨chk, latches, pins, disp, rfl⟩ : ∃ (chk : CheckUnit) (latches : Vector (Option Diagnosis) 8) (pins : Pins)
      (disp : Dispatcher), s = { u with chk := chk, latches := latches, pins := pins, disp := disp } :=
    ⟨_, _, _, _, hframe.symm⟩
  obtain ⟨entered, refused, notDue, events⟩ := u.giveVerdict_verdictGiven w o
  exact ⟨entered, refused, notDue, events⟩

/-- The Snapshot Unit finds the window's samples and its own state as they were before the hand-off. -/
theorem verdictOfWindow_frame (s : State) (w : WinRef) : ∃ (chk : CheckUnit) (latches : Vector (Option Diagnosis) 8)
    (pins : Pins) (disp : Dispatcher) (rep : ReportQueue) (last : Vector (Option (Half × Byte)) 8),
    s = { s.verdictOfWindow w with
      chk := chk, latches := latches, pins := pins, disp := disp, rep := rep
      ana := { (s.verdictOfWindow w).ana with lastVerdicts := last } } := by
  have hchecked := s.checkedOf_frame w
  have hgiven : { s.verdictOfWindow w with
      rep := (s.checkedOf w).rep, disp := (s.checkedOf w).disp
      ana := { (s.verdictOfWindow w).ana with lastVerdicts := (s.checkedOf w).ana.lastVerdicts } } = s.checkedOf w :=
    giveVerdict_frame (s.checkedOf w) _ _ _
  rw [← hgiven] at hchecked
  exact ⟨_, _, _, _, _, _, hchecked.symm⟩

theorem snapshotTold_of_frame {v : State} (h : ∃ (chk : CheckUnit) (latches : Vector (Option Diagnosis) 8) (pins : Pins)
    (disp : Dispatcher) (rep : ReportQueue) (last : Vector (Option (Half × Byte)) 8),
    s = { v with chk := chk, latches := latches, pins := pins, disp := disp, rep := rep
                 ana := { v.ana with lastVerdicts := last } }) (w : WinRef) (o : WinOutcome) (raised latchSet : Bool) :
    (v.tellSnapshot w (s.group w.group).descs[w.desc] o raised latchSet).SnapshotTold s w o (raised = true)
      (latchSet = true) := by
  obtain ⟨chk, latches, pins, disp, rep, last, rfl⟩ := h
  obtain ⟨captured, kept⟩ := v.tellSnapshot_snapshotTold w o raised latchSet
  exact ⟨captured, kept⟩

theorem toldOf_snapshot (s : State) (w : WinRef) :
    let d := (s.group w.group).descs[w.desc]
    let outcome := (s.viewOf w).outcome d (s.group w.group).gen
    (s.toldOf w).SnapshotTold s w outcome (s.raiseIndication (s.viewOf w) d.number outcome = true)
      (s.setIndication (s.viewOf w) d.number outcome = true) :=
  snapshotTold_of_frame (s.verdictOfWindow_frame w) w _ _ _

/-- Step 4 leaves what the verdict left, but for the Snapshot Unit and its marker. -/
theorem toldOf_frame (s : State) (w : WinRef) :
    { s.toldOf w with snap := (s.verdictOfWindow w).snap, rep := (s.verdictOfWindow w).rep } = s.verdictOfWindow w ∧
      (∃ more, (s.toldOf w).rep.records = (s.verdictOfWindow w).rep.records ++ more) ∧
      (s.toldOf w).rep.verdicts = (s.verdictOfWindow w).rep.verdicts ∧
      (s.toldOf w).rep.dropCount = (s.verdictOfWindow w).rep.dropCount := by
  obtain ⟨hframe, hrep⟩ := tellSnapshot_frame (s.verdictOfWindow w) w (s.group w.group).descs[w.desc]
    ((s.viewOf w).outcome (s.group w.group).descs[w.desc] (s.group w.group).gen)
    (s.raiseIndication (s.viewOf w) (s.group w.group).descs[w.desc].number
      ((s.viewOf w).outcome (s.group w.group).descs[w.desc] (s.group w.group).gen))
    (s.setIndication (s.viewOf w) (s.group w.group).descs[w.desc].number
      ((s.viewOf w).outcome (s.group w.group).descs[w.desc] (s.group w.group).gen))
  refine ⟨hframe, ?_⟩
  obtain h | h := hrep
  · have h' : (s.toldOf w).rep = (s.verdictOfWindow w).rep := h
    rw [h']
    exact ⟨⟨[], (List.append_nil _).symm⟩, rfl, rfl⟩
  · have h' : (s.toldOf w).rep = (s.verdictOfWindow w).rep.offerMarker _ _ := h
    rw [h']
    exact ⟨ReportQueue.offerMarker_records _ _ _, ReportQueue.offerMarker_verdicts _ _ _,
      ReportQueue.offerMarker_dropCount _ _ _⟩

/-- What a window's verdict leaves stays through the steps behind it. -/
theorem VerdictGiven.behind {u s : State} {w : WinRef} {o : WinOutcome} {q : Dispatcher} (h : u.VerdictGiven s w o q)
    (hchk : t.chk = u.chk) (hlatches : t.latches = u.latches) (hlast : t.ana.lastVerdicts = u.ana.lastVerdicts)
    (hdisp : t.disp = u.disp) (hrecords : ∃ more, t.rep.records = u.rep.records ++ more)
    (hverdicts : t.rep.verdicts = u.rep.verdicts) (hdrop : t.rep.dropCount = u.rep.dropCount) : t.VerdictGiven s w o q := by
  have hvector : ∀ g, t.vector g = u.vector g := fun g => by rw [vector, vector, hchk]
  have hlatch : ∀ g, t.latch g = u.latch g := fun g => by rw [latch, latch, hlatches]
  have hdue : t.VerdictDue s w ↔ u.VerdictDue s w := by simp only [VerdictDue, hvector, hlatch]
  have hwith : t.verdictWith s w o = u.verdictWith s w o := by simp only [verdictWith, hvector, hlatch]
  obtain ⟨entered, refused, notDue, events⟩ := h
  obtain ⟨more, hmore⟩ := hrecords
  refine ⟨fun hd hroom => ?_, fun hd hfull => ?_, fun hd => ?_, ?_⟩
  · obtain ⟨⟨rest, hrest⟩, hzero, hset⟩ := entered (hdue.mp hd) hroom
    rw [hwith, hlast, hvector, hlatch, hdrop, hmore, hrest, List.append_assoc]
    exact ⟨⟨rest ++ more, rfl⟩, hzero, hset⟩
  · rw [hlast, hdrop, hverdicts]
    exact refused (hdue.mp hd) hfull
  · rw [hlast, hdrop, hverdicts]
    exact notDue (fun hu => hd (hdue.mpr hu))
  · rw [hdisp, events]
    exact if_congr (and_congr_left' hdue.symm) rfl rfl

/-! ## The end of an evaluation with nothing else under way (R89) -/

/-- A group judged for QUIESCED with no switch of it pending (R69). -/
theorem judgeQuiesced_of_not_pending {g : Group} (h : s.switchPending g = false) : s.judgeQuiesced g =
    if (s.group g).state = .quiescing ∧ (s.group g).inFlight = false then
      (((s.modGroup g (fun x =>
        { x with state := .quiesced, frontiers := Vector.replicate 8 none, lastRef := none, arm := false })).clearChecks
          g).setLatch g none).offerMarker (.groupQuiesced g)
    else s := by
  unfold judgeQuiesced
  refine if_congr (by rw [Bool.and_eq_true, beq_iff_eq, Bool.not_eq_true']) ?_ rfl
  have hmgmt : ∀ x : State, (x.clearChecks g).mgmt = x.mgmt := fun x => by
    rw [clearChecks, setLimitStates_eq]
    rfl
  have hpending : ∀ x y : State, x.mgmt = y.mgmt → x.switchPending g = y.switchPending g := fun x y e => by
    rw [switchPending, switchPending, e]
  unfold enterQuiesced
  dsimp only
  refine if_neg (fun hp => absurd (h.symm.trans ((hpending _ _ ?_).trans hp)) Bool.false_ne_true)
  exact (hmgmt (s.modGroup g (fun x =>
    { x with state := .quiesced, frontiers := Vector.replicate 8 none, lastRef := none, arm := false }))).symm

theorem judgeQuiesced_idle (h : s.mgmt.commit = none) (g : Group) : s.judgeQuiesced g =
    if (s.group g).state = .quiescing ∧ (s.group g).inFlight = false then
      (((s.modGroup g (fun x =>
        { x with state := .quiesced, frontiers := Vector.replicate 8 none, lastRef := none, arm := false })).clearChecks
          g).setLatch g none).offerMarker (.groupQuiesced g)
    else s :=
  judgeQuiesced_of_not_pending (switchPending_of_idle h g)

theorem judgeQuiesced_mgmt (h : s.mgmt.commit = none) (g : Group) : (s.judgeQuiesced g).mgmt = s.mgmt := by
  rw [judgeQuiesced_idle h]
  split
  · show (State.clearChecks _ g).mgmt = s.mgmt
    rw [clearChecks, setLimitStates_eq]
    rfl
  · rfl

theorem toldOf_same (s : State) (w : WinRef) : ∃ (chk : CheckUnit) (latches : Vector (Option Diagnosis) 8)
    (pins : Pins) (disp : Dispatcher) (rep : ReportQueue) (snap : SnapshotUnit) (last : Vector (Option (Half × Byte)) 8),
    s = { s.toldOf w with
      chk := chk, latches := latches, pins := pins, disp := disp, rep := rep, snap := snap
      ana := { (s.toldOf w).ana with lastVerdicts := last } } := by
  obtain ⟨chk, latches, pins, disp, rep, last, h⟩ := s.verdictOfWindow_frame w
  rw [← (s.toldOf_frame w).1] at h
  exact ⟨_, _, _, _, _, _, _, h⟩

theorem handOff_outside (s : State) (w : WinRef) : (s.handOff w).outside = s.outside :=
  (outside_switchInvariant s.outside).handOff rfl w

theorem handOff_mgmt (hcommit : s.mgmt.commit = none) (hfree : s.mgmt.hold = none) (w : WinRef) :
    (s.handOff w).mgmt = s.mgmt := by
  obtain ⟨chk, latches, pins, disp, rep, snap, last, hsame⟩ := s.toldOf_same w
  have hmgmt : (s.toldOf w).mgmt = s.mgmt := (congrArg State.mgmt hsame).symm
  rw [handOff_eq]
  generalize s.toldOf w = u at hmgmt
  unfold release
  dsimp only
  rw [(windowStep_engineTake _).mgmt, judgeHold_of_free (by exact hmgmt ▸ hfree), judgeQuiesced_mgmt (by exact hmgmt ▸ hcommit)]
  exact hmgmt

/-- With no commit pending, no reset coming and no hold, the end of an evaluation is its hand-off (R89, log 18). -/
theorem exec_evaluationEnd {e : Evaluation} (hheld : s.pins.held = none) (hengine : s.ana.engine = some e) (hcalm : s.calm)
    (hfree : s.mgmt.hold = none) : exec .evaluationEnd s = .next (s.handOff e.win) := by
  refine congrArg Host.Outcome.next ?_
  have hmgmt := handOff_mgmt hcalm.1 hfree e.win
  have hlinks := links_of_outside (s.handOff_outside e.win)
  rw [running, s.isHeld_eq_false_iff.mpr hheld]
  show s.endEvaluation = _
  unfold endEvaluation
  rw [hengine]
  show (s.handOff e.win).finish = _
  rw [finish_of_calm (hcalm.of_mgmt hmgmt (congrArg Links.markReset hlinks)), judgeHold_of_free (hmgmt ▸ hfree)]

/-- What the hand-off of a window of a group that is not QUIESCING leaves (R89). -/
theorem handOff_leaves (hfree : s.mgmt.hold = none) {w : WinRef} (hstate : (s.group w.group).state ≠ .quiescing) :
    let t := s.handOff w
    let d := (s.group w.group).descs[w.desc]
    let outcome := (s.viewOf w).outcome d (s.group w.group).gen
    t.chk = (s.checkedOf w).chk ∧ t.latches = (s.checkedOf w).latches ∧ t.pins = (s.checkedOf w).pins ∧
      t.VerdictGiven s w outcome (s.checkedOf w).disp ∧
      t.SnapshotTold s w outcome (s.raiseIndication (s.viewOf w) d.number outcome = true)
        (s.setIndication (s.viewOf w) d.number outcome = true) ∧
      (w ∉ s.ana.queue → t.EngineReleased s w) := by
  intro t d outcome
  obtain ⟨chk, latches, pins, disp, rep, snap, last, hsame⟩ := s.toldOf_same w
  have hfree' : (s.toldOf w).mgmt.hold = none := by rw [← hfree, congrArg State.mgmt hsame]
  have hgroup : (s.toldOf w).group w.group = s.group w.group := (congrArg (fun x : State => x.group w.group) hsame).symm
  have hqueue : (s.toldOf w).ana.queue = s.ana.queue := (congrArg (fun x : State => x.ana.queue) hsame).symm
  have hstate' : ((s.toldOf w).group w.group).state ≠ .quiescing := hgroup ▸ hstate
  obtain ⟨hrelease, hlast⟩ := release_frame hfree' hstate'
  obtain ⟨htold, hrecords, hverdicts, hdrop⟩ := s.toldOf_frame w
  have hgiven := giveVerdict_frame (s.checkedOf w) (s.viewOf w) d outcome
  have ht : t = (s.toldOf w).release w := s.handOff_eq w
  have hfields : t.chk = (s.verdictOfWindow w).chk ∧ t.latches = (s.verdictOfWindow w).latches ∧
      t.pins = (s.verdictOfWindow w).pins ∧ t.disp = (s.verdictOfWindow w).disp ∧ t.rep = (s.toldOf w).rep ∧
      t.snap = (s.toldOf w).snap ∧ t.ana.lastVerdicts = (s.verdictOfWindow w).ana.lastVerdicts := by
    rw [ht]
    refine ⟨?_, ?_, ?_, ?_, ?_, ?_, hlast.trans ?_⟩
    · exact (congrArg State.chk hrelease :).trans (congrArg State.chk htold :)
    · exact (congrArg State.latches hrelease :).trans (congrArg State.latches htold :)
    · exact (congrArg State.pins hrelease :).trans (congrArg State.pins htold :)
    · exact (congrArg State.disp hrelease :).trans (congrArg State.disp htold :)
    · exact (congrArg State.rep hrelease :)
    · exact (congrArg State.snap hrelease :)
    · exact (congrArg (fun x : State => x.ana.lastVerdicts) htold :)
  obtain ⟨hchk, hlatches, hpins, hdisp, hrep, hsnap, hlast'⟩ := hfields
  refine ⟨hchk.trans (congrArg State.chk hgiven :), hlatches.trans (congrArg State.latches hgiven :),
    hpins.trans (congrArg State.pins hgiven :), ?_, ?_, fun hw => ?_⟩
  · exact (s.verdictOfWindow_given w).behind hchk hlatches hlast' hdisp (hrep ▸ hrecords) (hrep ▸ hverdicts) (hrep ▸ hdrop)
  · obtain ⟨captured, kept⟩ := s.toldOf_snapshot w
    rw [← hsnap] at captured kept
    rw [← hrep] at captured
    exact ⟨captured, kept⟩
  · obtain ⟨hfreed, hengine, htail⟩ := release_engineReleased hfree' hstate' (hqueue ▸ hw)
    rw [← ht, hqueue] at hengine htail
    exact ⟨ht ▸ hfreed, hengine, htail⟩

end State

end Sys2Proof.Machine
end

section
/-! The end of an evaluation: the outcome, and windows that are not CHECKED and that are (R88 to R101, R114 to R118). -/

namespace Sys2Proof.Machine

/-! ## Mapped channels and banks (R45, R47) -/

theorem Bank.mapped_iff (b : Bank) (g : Group) (c : Chan) : b.mapped g c = true ↔
    ∃ m ∈ b.channelMap.toList, m.valid = true ∧ m.group = g ∧ m.chan = c := by
  rw [Bank.mapped, Bank.entryOf, List.find?_isSome]
  simp only [Bool.and_eq_true, beq_iff_eq, and_assoc]

theorem mem_all8 (c : Fin 8) : c ∈ all8 := by
  revert c
  decide

theorem Bank.mem_channels (b : Bank) (g : Group) (c : Chan) : c ∈ b.channels g ↔
    ∃ m ∈ b.channelMap.toList, m.valid = true ∧ m.group = g ∧ m.chan = c := by
  rw [Bank.channels, List.mem_filter, b.mapped_iff g c, and_iff_right (mem_all8 c)]

theorem Level.threshold_eq (l : Level) : l.threshold = match l with
    | .l1 => 655
    | .l2 => 1638
    | .l3 => 3276
    | .l4 => 6553 := by
  cases l <;> rfl

namespace State

variable {s : State}

theorem bankOf_eq (s : State) (gen : Gen) : s.bankOf gen =
    if s.mgmt.commit.map Commit.stagingGen = some gen then s.mgmt.staging else s.mgmt.active := by
  rw [bankOf, isStagingGen]
  cases s.mgmt.commit with
  | none => rfl
  | some c => exact if_congr (by rw [beq_iff_eq, Option.map_some, Option.some.injEq, eq_comm]) rfl rfl

end State

/-! ## The outcome (R88) -/

theorem WindowView.incomplete_iff (v : WindowView) (d : Descriptor) : v.incomplete d = true ↔
    ∃ m ∈ v.bank.channelMap.toList, m.valid = true ∧ m.group = v.group ∧
      v.bank.plans[v.group].tolerance + d.received[m.chan] < v.len := by
  rw [WindowView.incomplete, List.any_eq_true]
  constructor
  · rintro ⟨c, hc, hgap⟩
    obtain ⟨m, hm, hvalid, hgroup, rfl⟩ := (v.bank.mem_channels v.group c).mp hc
    exact ⟨m, hm, hvalid, hgroup, by have := of_decide_eq_true hgap; omega⟩
  · rintro ⟨m, hm, hvalid, hgroup, hgap⟩
    exact ⟨m.chan, (v.bank.mem_channels v.group m.chan).mpr ⟨m, hm, hvalid, hgroup, rfl⟩, decide_eq_true (by omega)⟩

theorem WindowView.idle_iff (v : WindowView) : v.idle = true ↔
    ∀ m : Int, v.measure ⟨v.bank.plans[v.group].condChan, .mean, 0⟩ = some m →
      m < v.bank.plans[v.group].level.threshold := by
  rw [WindowView.idle]
  cases v.measure ⟨v.bank.plans[v.group].condChan, .mean, 0⟩ <;> simp

theorem WindowView.outcome_stale {v : WindowView} {d : Descriptor} {gen : Gen} (h : d.tag ≠ gen) :
    v.outcome d gen = .stalePlan :=
  if_pos (bne_iff_ne.mpr h)

theorem WindowView.outcome_current {v : WindowView} {d : Descriptor} {gen : Gen} (h : d.tag = gen) :
    v.outcome d gen = if v.incomplete d = true then .incomplete else if v.idle = true then .idle else .checked :=
  if_neg (by simp [h])

namespace State

variable {s : State}

/-- A window that is not CHECKED touches neither limits nor latches (R100, R116). -/
theorem checkedOf_unchecked {w : WinRef}
    (h : (s.viewOf w).outcome (s.group w.group).descs[w.desc] (s.group w.group).gen ≠ .checked) : s.checkedOf w = s :=
  if_neg (fun hc => h (beq_iff_eq.mp hc))

end State

/-- Settles O33: the outcome's first test that holds, and the hand-off of a window whose steps 1 and 2 do nothing. -/
theorem uncheckedWindowEnds : Obligations.UncheckedWindowEnds := by
  refine ⟨fun s hidle => ?_, fun s w => ?_, fun s e hheld hengine hcalm hfree => ?_⟩
  · refine congrArg Host.Outcome.next ?_
    rw [State.running]
    split
    · rfl
    · rw [State.endEvaluation, hidle]
  · intro d gen bank plan gap threshold mean outcome
    have hbank : (s.viewOf w).bank = bank := s.bankOf_eq d.tag
    have hgap : (s.viewOf w).incomplete d = true ↔ gap := by
      rw [WindowView.incomplete_iff, hbank]
      rfl
    have hidle : (s.viewOf w).idle = true ↔ ∀ m : Int, mean = some m → m < threshold := by
      have hplan : (s.viewOf w).bank.plans[w.group] = plan := congrArg (fun b : Bank => b.plans[w.group]) hbank
      have hthreshold : plan.level.threshold = threshold := Level.threshold_eq _
      rw [WindowView.idle_iff]
      show (∀ m : Int, (s.viewOf w).measure ⟨((s.viewOf w).bank.plans[w.group]).condChan, .mean, 0⟩ = some m →
        m < ((s.viewOf w).bank.plans[w.group]).level.threshold) ↔ _
      rw [hplan, hthreshold]
    refine ⟨fun h => WindowView.outcome_stale h, fun h hg => ?_, fun h hg hm => ?_, fun h hg m hm hle => ?_⟩
    · exact (WindowView.outcome_current h).trans (if_pos (hgap.mpr hg))
    · exact (WindowView.outcome_current h).trans ((if_neg (fun hi => hg (hgap.mp hi))).trans (if_pos (hidle.mpr hm)))
    · exact (WindowView.outcome_current h).trans ((if_neg (fun hi => hg (hgap.mp hi))).trans
        (if_neg (fun hi => absurd (hidle.mp hi m hm) (Int.not_lt.mpr hle))))
  · intro w d outcome houtcome hstate hqueue
    obtain ⟨hchk, hlatches, hpins, hverdict, hsnapshot, hreleased⟩ := State.handOff_leaves hfree hstate
    have hunchecked : s.checkedOf w = s := State.checkedOf_unchecked houtcome
    have hraised : (s.raiseIndication (s.viewOf w) d.number outcome = true) = False := by
      simp [State.raiseIndication, houtcome]
    have hset : (s.setIndication (s.viewOf w) d.number outcome = true) = False := by
      simp [State.setIndication, houtcome]
    rw [hunchecked] at hchk hlatches hpins hverdict
    rw [hraised, hset] at hsnapshot
    have houtside := s.handOff_outside w
    exact ⟨_, State.exec_evaluationEnd hheld hengine hcalm hfree, hchk, hlatches, hpins,
      (congrArg State.sources houtside :), (congrArg State.links houtside :), (congrArg State.fwd houtside :),
      State.handOff_mgmt hcalm.1 hfree w, hverdict, hsnapshot, hreleased hqueue⟩

end Sys2Proof.Machine
end

section
/-! The end of the evaluation of a CHECKED window: limits, vector, latch and their events (R97, R98, R101, R114 to R118). -/

namespace Sys2Proof.Machine

/-! ## Step 1: the entries (R97 to R99) -/

theorem moveEvent_self (st : LimitState) : moveEvent st st = none := by
  cases st <;> rfl

theorem LimitEntry.stepped_eq (e : LimitEntry) (v : WindowView) (st : LimitState) : e.stepped v st =
    match v.measure e.ref with
    | some x => if e.valid = true ∧ e.group = v.group then e.move st (e.classify x) else st
    | none => st := by
  rw [LimitEntry.stepped]
  cases v.measure e.ref with
  | none => exact ite_self _
  | some x => exact if_congr (by rw [Bool.and_eq_true, beq_iff_eq]) rfl rfl

theorem LimitEntry.raising_eq (e : LimitEntry) (v : WindowView) (n : Half) (i : Nat) (st : LimitState) : e.raising v n i st =
    match v.measure e.ref, moveEvent st (e.stepped v st) with
    | some x, some k => if e.valid = true ∧ e.group = v.group then [(k, .limit v.group i n x)] else []
    | _, _ => [] := by
  rw [LimitEntry.raising]
  cases hx : v.measure e.ref with
  | none => cases moveEvent st (e.stepped v st) <;> rfl
  | some x =>
    cases hk : moveEvent st (e.stepped v st) with
    | none => rfl
    | some k =>
      refine (if_pos ?_).symm
      by_contra hne
      have hkept : e.stepped v st = st := by
        rw [LimitEntry.stepped_eq, hx]
        exact if_neg hne
      rw [hkept, moveEvent_self] at hk
      cases hk

/-- What a table's entries raise, index by index (R98). -/
theorem raisings_ofFn (v : WindowView) (number : Half) : ∀ {n : Nat} (i : Nat) (e : Fin n → LimitEntry)
    (st : Fin n → LimitState), raisings v number i (List.ofFn e) (List.ofFn st) =
      (List.finRange n).flatMap (fun j => (e j).raising v number (i + j.val) (st j))
  | 0, _, _, _ => rfl
  | n + 1, i, e, st => by
    have htail := raisings_ofFn v number (i + 1) (fun j => e j.succ) (fun j => st j.succ)
    have hindex : ∀ j : Fin n, i + 1 + j.val = i + j.succ.val := fun j => by rw [Fin.val_succ]; omega
    rw [List.ofFn_succ, List.ofFn_succ, raisings, htail, List.finRange_succ, List.flatMap_cons, List.flatMap_map]
    simp only [hindex]
    rfl

namespace State

variable {s : State}

theorem groupBank_idle (h : s.mgmt.commit = none) (g : Group) : s.groupBank g = s.mgmt.active := by
  rw [groupBank, bankOf_eq, h]
  rfl

theorem readsStaging_idle (h : s.mgmt.commit = none) (g : Group) : s.readsStaging g = false := by
  rw [readsStaging, isStagingGen, h]

theorem limitStates_idle (h : s.mgmt.commit = none) (g : Group) : s.limitStates g = s.chk.active := by
  rw [limitStates, readsStaging_idle h]
  rfl

/-- The limit states a CHECKED window leaves, with no commit pending (R98). -/
def steppedActive (s : State) (v : WindowView) : Vector LimitState 96 := steppedStates v s.mgmt.active.limits s.chk.active

/-- Step 1 of a CHECKED window with no commit pending. -/
theorem stepLimits_idle (h : s.mgmt.commit = none) (v : WindowView) (n : Half) : s.stepLimits v n =
    ({ s with chk := { s.chk with
      active := s.steppedActive v
      vectors := s.chk.vectors.set v.group (vectorOf v.group s.mgmt.active.limits.toList (s.steppedActive v).toList) } }
        : State).raiseAll (s.stepRaisings v n) := by
  have hset : s.setLimitStates v.group (steppedStates v (s.groupBank v.group).limits (s.limitStates v.group)) =
      { s with chk := { s.chk with active := s.steppedActive v } } := by
    rw [groupBank_idle h, limitStates_idle h, setLimitStates, readsStaging_idle h]
    rfl
  rw [stepLimits, hset, refreshVector, groupBank_idle (by exact h), limitStates_idle (by exact h)]
  rfl

theorem stepRaisings_idle (h : s.mgmt.commit = none) (v : WindowView) (n : Half) : s.stepRaisings v n =
    (List.finRange 96).flatMap (fun i => (s.mgmt.active.limits[i]).raising v n i.val s.chk.active[i]) := by
  rw [stepRaisings, groupBank_idle h, limitStates_idle h, toList_eq_ofFn, toList_eq_ofFn, raisings_ofFn]
  simp only [Nat.zero_add]

theorem matchOf_idle (h : s.mgmt.commit = none) (g : Group) :
    s.matchOf g = firstMatch g (s.vector g) 0 s.mgmt.active.signatures.toList := by
  rw [matchOf, groupBank_idle h]

/-! ## Step 2: the latch (R114, R115, R117, R118) -/

/-- The latch and the Event Dispatcher that a CHECKED window leaves, by its match and the latch before (R115, R117). -/
def latchStep (g : Group) (n : Half) (found : Option (Nat × Signature)) (old : Option Diagnosis) (q : Dispatcher) :
    Option Diagnosis × Dispatcher :=
  match found, old with
  | none, none => (none, q)
  | none, some old => (none, q.raiseDetail .diagnosisCleared (.diagnosisCleared g old.code n))
  | some (i, f), none => (some ⟨f.code, f.severity, i, n⟩,
      q.raiseDetail .diagnosisSet (.diagnosisSet g f.code f.severity i n))
  | some (i, f), some old =>
    if old.index = i then (some old, q)
    else (some ⟨f.code, f.severity, i, n⟩, q.raiseDetail .diagnosisSet (.diagnosisSet g f.code f.severity i n))

/-- A latch and the Event Dispatcher replaced, ALERT_N following (R118). -/
def withLatch (s : State) (g : Group) (x : Option Diagnosis × Dispatcher) : State :=
  { s with
    latches := s.latches.set g x.1
    pins := { s.pins with alert := anyTrip (s.latches.set g x.1) }
    disp := x.2 }

theorem withLatch_same (halert : s.pins.alert = anyTrip s.latches) (g : Group) : s.withLatch g (s.latch g, s.disp) = s := by
  have hlatches : s.latches.set g (s.latch g) = s.latches := Vector.set_getElem_self g.isLt
  rw [withLatch, hlatches, ← halert]

theorem setDiagnosis_eq (hheld : s.pins.held = none) (g : Group) (i : Nat) (e : Signature) (n : Half) :
    s.setDiagnosis g i e n = s.withLatch g (some ⟨e.code, e.severity, i, n⟩,
      s.disp.raiseDetail .diagnosisSet (.diagnosisSet g e.code e.severity i n)) := by
  have hnot : ∀ x : Vector (Option Diagnosis) 8, (s.setLatches x).isHeld = false := fun _ => s.isHeld_eq_false_iff.mpr hheld
  unfold setDiagnosis setLatch refreshAlert
  rw [hnot]
  rfl

theorem clearDiagnosis_eq (hheld : s.pins.held = none) (g : Group) (old : Diagnosis) (n : Half) :
    s.clearDiagnosis g old n = s.withLatch g (none,
      s.disp.raiseDetail .diagnosisCleared (.diagnosisCleared g old.code n)) := by
  have hnot : ∀ x : Vector (Option Diagnosis) 8, (s.setLatches x).isHeld = false := fun _ => s.isHeld_eq_false_iff.mpr hheld
  unfold clearDiagnosis setLatch refreshAlert
  rw [hnot]
  rfl

theorem updateLatch_eq (hheld : s.pins.held = none) (halert : s.pins.alert = anyTrip s.latches) (g : Group) (n : Half) :
    s.updateLatch g n = s.withLatch g (latchStep g n (s.matchOf g) (s.latch g) s.disp) := by
  have hsame := withLatch_same halert g
  unfold updateLatch latchStep
  cases s.matchOf g with
  | none =>
    cases hl : s.latch g with
    | none => exact (hl ▸ hsame).symm
    | some old => exact clearDiagnosis_eq hheld g old n
  | some m =>
    obtain ⟨i, e⟩ := m
    cases hl : s.latch g with
    | none => exact setDiagnosis_eq hheld g i e n
    | some old =>
      by_cases hi : old.index = i
      · simp only [hi, beq_self_eq_true, if_true]
        exact (hl ▸ hsame).symm
      · simp only [beq_false_of_ne hi, hi, if_false, Bool.false_eq_true]
        exact setDiagnosis_eq hheld g i e n

theorem latch_withLatch (s : State) (g : Group) (x : Option Diagnosis × Dispatcher) (h : Group) :
    (s.withLatch g x).latch h = if h = g then x.1 else s.latch h := by
  show (s.latches.set g x.1)[h] = _
  rw [Fin.getElem_fin, Vector.getElem_set]
  exact if_congr ⟨fun e => Fin.ext e.symm, fun e => by rw [e]⟩ rfl rfl

theorem latchChanges_iff (s : State) (g : Group) : s.latchChanges g = true ↔
    match s.matchOf g, s.latch g with
    | some (j, _), some old => old.index ≠ j
    | some _, none => True
    | none, _ => False := by
  rw [latchChanges]
  cases s.matchOf g with
  | none => simp
  | some m => cases s.latch g <;> simp

/-! ## Both steps (R89) -/

/-- What step 1 of a CHECKED window leaves, with no commit pending (R97, R98, R101). -/
theorem stepLimits_spec (h : s.mgmt.commit = none) (v : WindowView) (n : Half) :
    { s.stepLimits v n with chk := s.chk, disp := s.disp } = s ∧
      (s.stepLimits v n).chk = { s.chk with
        active := s.steppedActive v
        vectors := s.chk.vectors.set v.group (vectorOf v.group s.mgmt.active.limits.toList (s.steppedActive v).toList) } ∧
      (s.stepLimits v n).disp = (s.stepRaisings v n).foldl (fun (q : Dispatcher) m => q.raiseDetail m.1 m.2) s.disp := by
  refine ⟨s.stepLimits_frame v n, ?_, ?_⟩
  all_goals
    rw [stepLimits_idle h]
    obtain ⟨hrest, hdisp⟩ := raiseAll_frame ({ s with chk := { s.chk with
      active := s.steppedActive v
      vectors := s.chk.vectors.set v.group (vectorOf v.group s.mgmt.active.limits.toList (s.steppedActive v).toList) } }
        : State) (s.stepRaisings v n)
  · exact (congrArg State.chk hrest :)
  · exact hdisp

theorem vector_of_set {t : State} {g : Group} {x : Half} (h : t.chk.vectors = s.chk.vectors.set g x) (k : Group) :
    t.vector k = if k = g then x else s.vector k := by
  rw [vector, h, Fin.getElem_fin, Vector.getElem_set]
  exact if_congr ⟨fun e => Fin.ext e.symm, fun e => by rw [e]⟩ rfl rfl

/-- Steps 1 and 2 of a CHECKED window. -/
theorem checkedOf_checked {w : WinRef}
    (h : (s.viewOf w).outcome (s.group w.group).descs[w.desc] (s.group w.group).gen = .checked) : s.checkedOf w =
      (s.stepLimits (s.viewOf w) (s.group w.group).descs[w.desc].number).updateLatch w.group
        (s.group w.group).descs[w.desc].number := by
  unfold checkedOf checkWindow
  rw [h]
  rfl

end State

/-- Settles O34: `stepLimits_spec` and `updateLatch_eq` are steps 1 and 2, and the rest of the hand-off follows them. -/
theorem checkedWindowStepsLimitsAndLatch : Obligations.CheckedWindowStepsLimitsAndLatch := by
  intro s e hheld hengine hcalm hfree w g d v limits houtcome hstate halert
  obtain ⟨hchk, hlatches, hpins, hverdict, hsnapshot, hreleased⟩ := State.handOff_leaves hfree hstate
  have hchecked : s.checkedOf w = (s.stepLimits v d.number).updateLatch g d.number := State.checkedOf_checked houtcome
  obtain ⟨hrest, hstepped, hraised⟩ := State.stepLimits_spec hcalm.1 v d.number
  have hraisings : s.stepRaisings v d.number = _ := State.stepRaisings_idle hcalm.1 v d.number
  have houtside := s.handOff_outside w
  have hmgmt := State.handOff_mgmt hcalm.1 hfree w
  have hraiseInd : (s.raiseIndication v d.number (v.outcome d (s.group g).gen) = true) =
      ∃ m ∈ s.stepRaisings v d.number, m.1 = .limitRaised := by
    simp [State.raiseIndication, houtcome]
  have hsetInd : (s.setIndication v d.number (v.outcome d (s.group g).gen) = true) =
      ((s.stepLimits v d.number).latchChanges g = true) := by
    simp only [State.setIndication, houtcome, beq_self_eq_true, Bool.true_and]
    rfl
  rw [hraiseInd, hsetInd, State.latchChanges_iff] at hsnapshot
  generalize hu : s.stepLimits v d.number = u at hchecked hrest hstepped hraised hsnapshot
  have hulatches : u.latches = s.latches := (congrArg State.latches hrest :)
  have hupins : u.pins = s.pins := (congrArg State.pins hrest :)
  have humgmt : u.mgmt = s.mgmt := (congrArg State.mgmt hrest :)
  have hulatch : u.latch g = s.latch g := by rw [State.latch, State.latch, hulatches]
  have hualert : u.pins.alert = anyTrip u.latches := by
    rw [hupins, hulatches, halert, s.isHeld_eq_false_iff.mpr hheld]
    rfl
  rw [hchecked, State.updateLatch_eq (hupins ▸ hheld) hualert] at hchk hlatches hpins hverdict
  have hvectors := State.vector_of_set (t := s.handOff w) (congrArg CheckUnit.vectors (hchk.trans hstepped))
  have hmatch : u.matchOf g = firstMatch g ((s.handOff w).vector g) 0 s.mgmt.active.signatures.toList := by
    rw [State.matchOf_idle (by rw [humgmt]; exact hcalm.1), humgmt, State.vector, State.vector, hchk]
    rfl
  have hactive : (s.handOff w).chk.active = s.steppedActive v := congrArg CheckUnit.active (hchk.trans hstepped)
  have hentry : ∀ i : Fin 96, (s.handOff w).chk.active[i] = (limits[i]).stepped v s.chk.active[i] := fun i => by
    rw [hactive]
    exact getElem_vzip _ _ _ _ _
  have hmoves : s.stepRaisings v d.number = (List.finRange 96).flatMap (fun i =>
      match v.measure limits[i].ref, moveEvent s.chk.active[i] (s.handOff w).chk.active[i] with
      | some x, some k =>
        if limits[i].valid = true ∧ limits[i].group = g then [(k, .limit g i.val d.number x)] else []
      | _, _ => []) := by
    rw [hraisings]
    refine List.flatMap_congr (fun i _ => ?_)
    rw [hentry]
    exact LimitEntry.raising_eq _ _ _ _ _
  have hlatch : ∀ h : Group, (s.handOff w).latch h = (u.withLatch g (State.latchStep g d.number (u.matchOf g) (u.latch g) u.disp)).latch h := fun h => by
    rw [State.latch, State.latch, hlatches]
  refine ⟨_, State.exec_evaluationEnd hheld hengine hcalm hfree, fun i => ?_, ?_, fun h hne => ⟨?_, ?_⟩, ?_, ?_,
    (congrArg CheckUnit.staging (hchk.trans hstepped) :), (congrArg State.sources houtside :), (congrArg State.links houtside :),
    (congrArg State.fwd houtside :), hmgmt, hreleased⟩
  · rw [hentry]
    exact LimitEntry.stepped_eq _ _ _
  · rw [hactive]
    exact (hvectors g).trans (if_pos rfl)
  · exact (hvectors h).trans (if_neg hne)
  · rw [hlatch, State.latch_withLatch, if_neg hne, State.latch, hulatches]
    rfl
  · intro moves stepped found sets latched
    have hdisp : u.disp = stepped := hraised.trans (congrArg (List.foldl _ s.disp) hmoves)
    have hlatched : State.latchStep g d.number (u.matchOf g) (u.latch g) u.disp = latched := by
      rw [show u.matchOf g = found from hmatch, hulatch, hdisp]
      exact rfl
    rw [hlatched] at hverdict
    refine ⟨?_, ?_, ?_⟩
    · rw [hlatch, State.latch_withLatch, if_pos rfl, hlatched]
    · rw [houtcome] at hverdict
      exact hverdict
    · rw [houtcome, hmoves, hmatch, hulatch] at hsnapshot
      exact hsnapshot
  · rw [hpins, hlatches]
    rfl

end Sys2Proof.Machine
end

section
/-! Quiesce and resume (R69, R70, R107, R120, R186, R187, R202). -/

namespace Sys2Proof.Machine

namespace State

variable {s t u : State} {g : Group}

/-! ## A group enters QUIESCED (R69, R107, R120) -/

/-- The state a group's entry into QUIESCED leaves, with no commit pending (R69). -/
def quiescedFrom (s : State) (g : Group) : State :=
  (((s.modGroup g (fun x =>
    { x with state := .quiesced, frontiers := Vector.replicate 8 none, lastRef := none, arm := false })).clearChecks
      g).setLatch g none).offerMarker (.groupQuiesced g)

/-- Its group, the windows of every group as they were. -/
theorem quiescedFrom_group (s : State) (g h : Group) : (s.quiescedFrom g).group h =
    if h = g then { s.group g with
      state := .quiesced, frontiers := Vector.replicate 8 none, lastRef := none, arm := false } else s.group h := by
  have hbehind : ∀ t : State, (((t.clearChecks g).setLatch g none).offerMarker (.groupQuiesced g)).group h = t.group h :=
    fun t => by
      rw [clearChecks, setLimitStates_eq]
      rfl
  exact (hbehind _).trans (s.group_modGroup g h _)

theorem quiescedFrom_descs (s : State) (g h : Group) : ((s.quiescedFrom g).group h).descs = (s.group h).descs := by
  rw [quiescedFrom_group]
  by_cases e : h = g
  · rw [if_pos e, e]
  · rw [if_neg e]

theorem quiescedFrom_frame (s : State) (g : Group) :
    { s.quiescedFrom g with ana := s.ana, chk := s.chk, latches := s.latches, pins := s.pins, rep := s.rep } = s ∧
      (s.quiescedFrom g).ana.queue = s.ana.queue ∧ (s.quiescedFrom g).ana.engine = s.ana.engine ∧
      (s.quiescedFrom g).rep = s.rep.offerMarker s.settings.reportDest (.groupQuiesced g) := by
  unfold quiescedFrom
  rw [clearChecks, setLimitStates_eq]
  exact ⟨rfl, rfl, rfl, rfl⟩

theorem quiescedFrom_vector (s : State) (g h : Group) :
    (s.quiescedFrom g).vector h = if h = g then 0 else s.vector h := by
  refine vector_of_set (x := 0) ?_ h
  unfold quiescedFrom
  rw [clearChecks, setLimitStates_eq]
  rfl

theorem quiescedFrom_latch (s : State) (g h : Group) :
    (s.quiescedFrom g).latch h = if h = g then none else s.latch h := by
  have hlatches : (s.quiescedFrom g).latches = s.latches.set g none := by
    unfold quiescedFrom
    rw [clearChecks, setLimitStates_eq]
    rfl
  rw [latch, hlatches, Fin.getElem_fin, Vector.getElem_set]
  exact if_congr ⟨fun e => Fin.ext e.symm, fun e => by rw [e]⟩ rfl rfl

theorem judgeQuiesced_eq (h : s.mgmt.commit = none) (g : Group) : s.judgeQuiesced g =
    if (s.group g).state = .quiescing ∧ (s.group g).inFlight = false then s.quiescedFrom g else s :=
  judgeQuiesced_idle h g

theorem inFlight_iff (x : GroupCtx) : x.inFlight = true ↔
    ∃ d : Desc, x.descs[d].state = .queued ∨ x.descs[d].state = .evaluating := by
  have hall : ∀ d : Desc, d ∈ all3 := by decide
  rw [GroupCtx.inFlight, List.any_eq_true]
  simp only [Bool.or_eq_true, beq_iff_eq]
  exact ⟨fun ⟨d, _, h⟩ => ⟨d, h⟩, fun ⟨d, h⟩ => ⟨d, hall d, h⟩⟩

/-- The idle engine's take changes descriptors only. -/
theorem group_engineTake (s : State) (k : Group) :
    { (s.engineTake).group k with descs := (s.group k).descs } = s.group k := by
  unfold engineTake
  split
  next w rest _ _ =>
    show ({ (s.setDescState w .evaluating).group k with descs := (s.group k).descs } : GroupCtx) = s.group k
    rw [setDescState, group_modGroup]
    split
    next e => rw [e]; rfl
    next => rfl
  next => rfl

/-! ## The end of evaluation of a QUIESCING group's window (R69, R89) -/

theorem updateLatch_latch_ne (s : State) (g : Group) (n : Half) {h : Group} (hne : h ≠ g) :
    (s.updateLatch g n).latch h = s.latch h := by
  have hset : ∀ x : Option Diagnosis, (s.latches.set g x)[h] = s.latches[h] := fun x => by
    rw [Fin.getElem_fin, Vector.getElem_set]
    exact if_neg (fun e => hne (Fin.ext e.symm))
  unfold updateLatch
  split
  · split
    · rfl
    · exact hset _
  · exact hset _
  · exact hset _
  · rfl

/-- Steps 1 and 2 of a window change the vector and the latch of its own group only. -/
theorem checkedOf_others (hidle : s.mgmt.commit = none) (w : WinRef) {h : Group} (hne : h ≠ w.group) :
    (s.checkedOf w).vector h = s.vector h ∧ (s.checkedOf w).latch h = s.latch h := by
  by_cases houtcome : (s.viewOf w).outcome (s.group w.group).descs[w.desc] (s.group w.group).gen = .checked
  · obtain ⟨hrest, hchk, -⟩ := stepLimits_spec hidle (s.viewOf w) (s.group w.group).descs[w.desc].number
    have hlatches : (s.stepLimits (s.viewOf w) (s.group w.group).descs[w.desc].number).latches = s.latches :=
      (congrArg State.latches hrest :)
    have hframe := updateLatch_frame (s.stepLimits (s.viewOf w) (s.group w.group).descs[w.desc].number) w.group
      (s.group w.group).descs[w.desc].number
    have hvectors := vector_of_set (g := w.group)
      ((congrArg (fun x : State => x.chk.vectors) hframe :).trans (congrArg CheckUnit.vectors hchk))
    rw [checkedOf_checked houtcome]
    refine ⟨(hvectors h).trans (if_neg hne), ?_⟩
    rw [updateLatch_latch_ne _ _ _ hne, latch, latch, hlatches]
  · rw [checkedOf_unchecked houtcome]
    exact ⟨rfl, rfl⟩

/-- What stands before step 5, of the groups and their checks (R89). -/
theorem toldOf_keeps (s : State) (w : WinRef) : (s.toldOf w).mgmt = s.mgmt ∧ (s.toldOf w).ana.queue = s.ana.queue ∧
    (∀ h : Group, (s.toldOf w).group h = s.group h) ∧ (∀ h : Group, (s.toldOf w).vector h = (s.checkedOf w).vector h) ∧
    ∀ h : Group, (s.toldOf w).latch h = (s.checkedOf w).latch h := by
  obtain ⟨chk, latches, pins, disp, rep, snap, last, hsame⟩ := s.toldOf_same w
  have hgiven : { s.verdictOfWindow w with
      rep := (s.checkedOf w).rep, disp := (s.checkedOf w).disp
      ana := { (s.verdictOfWindow w).ana with lastVerdicts := (s.checkedOf w).ana.lastVerdicts } } = s.checkedOf w :=
    giveVerdict_frame (s.checkedOf w) _ _ _
  have htold := (s.toldOf_frame w).1
  refine ⟨(congrArg State.mgmt hsame).symm, (congrArg (fun x : State => x.ana.queue) hsame).symm,
    fun h => (congrArg (fun x : State => x.group h) hsame).symm, fun h => ?_, fun h => ?_⟩
  · exact (congrArg (fun x : State => x.vector h) htold :).trans (congrArg (fun x : State => x.vector h) hgiven :)
  · exact (congrArg (fun x : State => x.latch h) htold :).trans (congrArg (fun x : State => x.latch h) hgiven :)

/-- The state step 5 judges the group in (R69, R89). -/
def freedOf (s : State) (w : WinRef) : State := (s.freeDesc w).setAna { (s.freeDesc w).ana with engine := none }

theorem release_judged (hidle : s.mgmt.commit = none) (hfree : s.mgmt.hold = none) (w : WinRef) : s.release w =
    (if ((s.freedOf w).group w.group).state = .quiescing ∧ ((s.freedOf w).group w.group).inFlight = false then
      (s.freedOf w).quiescedFrom w.group else s.freedOf w).engineTake := by
  have hheld : (s.freedOf w).mgmt.hold = none := hfree
  have hcommit : (s.freedOf w).mgmt.commit = none := hidle
  show ((s.freedOf w).judgeHold.judgeQuiesced w.group).engineTake = _
  rw [judgeHold_of_free hheld, judgeQuiesced_eq hcommit]

theorem freedOf_stateOf (s : State) (w v : WinRef) : (s.freedOf w).stateOf v = if v = w then .free else s.stateOf v :=
  s.stateOf_freeDesc w v

theorem freedOf_state (s : State) (w : WinRef) (h : Group) : ((s.freedOf w).group h).state = (s.group h).state :=
  s.state_freeDesc w h

/-- The windows of the group that are QUEUED or EVALUATING besides the one freed (R69). -/
theorem freedOf_inFlight (s : State) (w : WinRef) : ((s.freedOf w).group w.group).inFlight = true ↔
    ∃ d : Desc, d ≠ w.desc ∧ ((s.group w.group).descs[d].state = .queued ∨ (s.group w.group).descs[d].state = .evaluating) := by
  rw [inFlight_iff]
  refine exists_congr (fun d => ?_)
  have hstate := s.freedOf_stateOf w ⟨w.group, d⟩
  change ((s.freedOf w).group w.group).descs[d].state = _ at hstate
  rw [hstate]
  by_cases hd : d = w.desc
  · have hw : (⟨w.group, d⟩ : WinRef) = w := WinRef.eq_iff.mpr ⟨rfl, hd⟩
    simp [hd]
  · have hw : (⟨w.group, d⟩ : WinRef) ≠ w := fun e => hd (WinRef.eq_iff.mp e).2
    simp only [if_neg hw, ne_eq, hd, not_false_eq_true, true_and]
    rfl

/-- The hand-off of a window of a QUIESCING group: the group stays QUIESCING while another window of it is under way, and
enters QUIESCED otherwise (R69). -/
theorem handOff_quiescing (hidle : s.mgmt.commit = none) (hfree : s.mgmt.hold = none) {w : WinRef}
    (hstate : (s.group w.group).state = .quiescing) :
    let others := ∃ d : Desc, d ≠ w.desc ∧
      ((s.group w.group).descs[d].state = .queued ∨ (s.group w.group).descs[d].state = .evaluating)
    (others → s.handOff w = ((s.toldOf w).freedOf w).engineTake) ∧
      (¬ others → s.handOff w = (((s.toldOf w).freedOf w).quiescedFrom w.group).engineTake) := by
  intro others
  obtain ⟨hmgmt, -, hgroup, -, -⟩ := s.toldOf_keeps w
  have hquiescing : (((s.toldOf w).freedOf w).group w.group).state = .quiescing :=
    (freedOf_state _ _ _).trans ((congrArg GroupCtx.state (hgroup w.group)).trans hstate)
  have hflight : (((s.toldOf w).freedOf w).group w.group).inFlight = true ↔ others := by
    rw [freedOf_inFlight, hgroup]
  rw [handOff_eq, release_judged (hmgmt ▸ hidle) (hmgmt ▸ hfree)]
  refine ⟨fun h => ?_, fun h => ?_⟩
  · rw [if_neg (fun hc => by rw [hflight.mpr h] at hc; exact Bool.noConfusion hc.2)]
  · rw [if_pos ⟨hquiescing, Bool.eq_false_of_not_eq_true (fun hc => h (hflight.mp hc))⟩]

/-- What the end of evaluation of a QUIESCING group's window leaves of the groups, their vectors and their latches. -/
theorem handOff_of_quiescing (hidle : s.mgmt.commit = none) (hfree : s.mgmt.hold = none) {w : WinRef}
    (hstate : (s.group w.group).state = .quiescing) :
    let t := s.handOff w
    let others := ∃ d : Desc, d ≠ w.desc ∧
      ((s.group w.group).descs[d].state = .queued ∨ (s.group w.group).descs[d].state = .evaluating)
    (others → (t.group w.group).state = .quiescing) ∧
      (¬ others → w ∉ s.ana.queue →
        (t.group w.group).state = .quiesced ∧ (∀ d : Desc, (t.group w.group).descs[d].state ≠ .queued) ∧
        (t.group w.group).descs[w.desc].state = .free ∧
        (∀ c : Chan, (t.group w.group).frontiers[c] = none) ∧ (t.group w.group).lastRef = none ∧
        (t.group w.group).arm = false ∧ t.vector w.group = 0 ∧ t.latch w.group = none ∧
        t.rep.Shows (.groupQuiesced w.group)) ∧
      ∀ h : Group, h ≠ w.group → (t.group h).state = (s.group h).state ∧ t.vector h = s.vector h ∧ t.latch h = s.latch h := by
  intro t others
  obtain ⟨hothers, hnone⟩ := handOff_quiescing hidle hfree hstate
  obtain ⟨-, hqueue, hgroup, hvector, hlatch⟩ := s.toldOf_keeps w
  have hstateOf : ∀ v : WinRef, ((s.toldOf w).freedOf w).stateOf v = if v = w then .free else s.stateOf v := fun v => by
    rw [freedOf_stateOf, stateOf, hgroup]
    rfl
  have hfreed : ∀ h : Group, (((s.toldOf w).freedOf w).group h).state = (s.group h).state := fun h => by
    rw [freedOf_state, hgroup]
  have hchecks : ∀ h : Group, h ≠ w.group → ((s.toldOf w).freedOf w).vector h = s.vector h ∧
      ((s.toldOf w).freedOf w).latch h = s.latch h := fun h hne =>
    ⟨(hvector h).trans (checkedOf_others hidle w hne).1, (hlatch h).trans (checkedOf_others hidle w hne).2⟩
  generalize hv : (s.toldOf w).freedOf w = v at hothers hnone hstateOf hfreed hchecks
  have hvqueue : v.ana.queue = s.ana.queue := by rw [← hv]; exact hqueue
  by_cases h : others
  · have ht : t = v.engineTake := hothers h
    have hstep := windowStep_engineTake v
    rw [ht]
    refine ⟨fun _ => ?_, fun hn => absurd h hn, fun k hk => ⟨?_, ?_, ?_⟩⟩
    · rw [state_engineTake, hfreed, hstate]
    · rw [state_engineTake, hfreed]
    · rw [vector, hstep.chk]
      exact (hchecks k hk).1
    · rw [latch, hstep.latches]
      exact (hchecks k hk).2
  · have ht : t = (v.quiescedFrom w.group).engineTake := hnone h
    have hstep := windowStep_engineTake (v.quiescedFrom w.group)
    have htgroup := group_engineTake (v.quiescedFrom w.group) w.group
    have hqgroup := v.quiescedFrom_group w.group
    obtain ⟨-, hqqueue, -, hrep⟩ := v.quiescedFrom_frame w.group
    have hself := (hqgroup w.group).trans (if_pos rfl)
    have hqstateOf : ∀ x : WinRef, (v.quiescedFrom w.group).stateOf x = if x = w then .free else s.stateOf x := fun x => by
      rw [← hstateOf, stateOf, quiescedFrom_descs]
      rfl
    rw [ht]
    refine ⟨fun hc => absurd hc h, fun _ hnot => ⟨?_, fun d hd => ?_, ?_, fun c => ?_, ?_, ?_, ?_, ?_, ?_⟩, fun k hk => ⟨?_, ?_, ?_⟩⟩
    · rw [state_engineTake, hself]
    · have hmoved := stateOf_engineTake (v.quiescedFrom w.group) ⟨w.group, d⟩
      obtain hkept | ⟨-, htaken⟩ := hmoved
      · rw [hqstateOf] at hkept
        split at hkept
        next => exact absurd (hd.symm.trans hkept) (by decide)
        next hne =>
          exact h ⟨d, fun e => hne (WinRef.eq_iff.mpr ⟨rfl, e⟩), .inl (hkept.symm.trans hd)⟩
      · exact absurd (hd.symm.trans htaken) (by decide)
    · obtain hkept | ⟨hin, -⟩ := stateOf_engineTake (v.quiescedFrom w.group) w
      · exact hkept.trans ((hqstateOf w).trans (if_pos rfl))
      · rw [hqqueue, hvqueue] at hin
        exact absurd hin hnot
    · have hfrontiers : ((v.quiescedFrom w.group).engineTake.group w.group).frontiers = Vector.replicate 8 none :=
        (congrArg GroupCtx.frontiers htgroup :).trans (congrArg GroupCtx.frontiers hself)
      rw [hfrontiers]
      exact Vector.getElem_replicate _
    · exact (congrArg GroupCtx.lastRef htgroup :).trans (congrArg GroupCtx.lastRef hself)
    · exact (congrArg GroupCtx.arm htgroup :).trans (congrArg GroupCtx.arm hself)
    · rw [vector, hstep.chk]
      exact (v.quiescedFrom_vector w.group w.group).trans (if_pos rfl)
    · rw [latch, hstep.latches]
      exact (v.quiescedFrom_latch w.group w.group).trans (if_pos rfl)
    · rw [hstep.rep, hrep]
      exact ReportQueue.shows_offerMarker _ _ (fun m => by cases m <;> rfl)
    · rw [state_engineTake, hqgroup, if_neg hk, hfreed]
    · rw [vector, hstep.chk]
      exact (v.quiescedFrom_vector w.group k).trans ((if_neg hk).trans (hchecks k hk).1)
    · rw [latch, hstep.latches]
      exact (v.quiescedFrom_latch w.group k).trans ((if_neg hk).trans (hchecks k hk).2)

/-! ## A quiesce taken (R69, R186, R202) -/

theorem state_discardOpen (s : State) (g k : Group) : ((s.discardOpen g).group k).state = (s.group k).state := by
  unfold discardOpen
  split
  · exact s.state_freeDesc _ k
  · rfl

theorem state_settleNow (s : State) (g k : Group) : ((s.settleNow g).group k).state = (s.group k).state := by
  unfold settleNow
  split
  · exact s.state_settle _ k
  · rfl

/-- The windows of a group that a quiesce has discarded and settled (R69). -/
def quiesceWindows (s : State) (g : Group) : State :=
  if (s.group g).state = .off then s else (s.discardOpen g).settleNow g

theorem quiesce_eq (h1 : (s.group g).state ≠ .quiescing) (h2 : (s.group g).state ≠ .quiesced) :
    s.quiesce g = (s.quiesceWindows g).modGroup g (fun x => { x with state := .quiescing }) := by
  unfold quiesce quiesceWindows
  rw [if_neg (by simp [h1, h2])]
  simp only [beq_iff_eq]

theorem quiesceWindows_step (s : State) (g : Group) : (s.quiesceWindows g).WindowStep s := by
  unfold quiesceWindows
  split
  · exact WindowStep.refl s
  · exact (windowStep_settleNow _ g).trans (s.windowStep_discardOpen g)

theorem quiesceWindows_state (s : State) (g k : Group) : ((s.quiesceWindows g).group k).state = (s.group k).state := by
  unfold quiesceWindows
  split
  · rfl
  · exact (state_settleNow _ g k).trans (s.state_discardOpen g k)

theorem quiesceWindows_none (h : s.WindowsOk) (g : Group) : (s.quiesceWindows g).noneOpen g ∧
    ((s.group g).state ≠ .off → ∀ d : Desc, (s.quiesceWindows g).stateOf ⟨g, d⟩ ≠ .settling) := by
  have hwindows := (windowsOk_iff s).mp h
  unfold quiesceWindows
  split
  next hoff => exact ⟨hwindows.noneOpen (by rw [hoff]; decide), fun hn => absurd hoff hn⟩
  next => exact ⟨noneOpen_settleNow (noneOpen_discardOpen hwindows) g, fun _ => (hwindows.discardOpen g).settled g⟩

theorem judgeHold_rep (s : State) : s.judgeHold.rep = s.rep ∨
    s.judgeHold.rep = s.rep.offerMarker s.settings.reportDest .holdEffective := by
  unfold judgeHold
  split
  · split
    · exact .inr rfl
    · exact .inl rfl
  · exact .inl rfl

/-- The hold judged adds a HOLD_EFFECTIVE marker at most (R183). -/
theorem behind_judgeHold (s : State) : s.judgeHold.rep.Behind s.rep := by
  obtain h | h := s.judgeHold_rep
  · rw [h]
    exact .refl _
  · rw [h]
    exact s.rep.offerMarker_records _ _

theorem added_judgeHold {p : ReportQueue} {m : Marker} (h : s.rep.Added p m) (hm : m.sameKind .holdEffective = false) :
    s.judgeHold.rep.Added p m := by
  obtain hr | hr := s.judgeHold_rep
  · rw [hr]
    exact h
  · rw [hr]
    exact h.offerMarker _ hm

/-- An armed capture of the group ended, and nothing else done (R201, R202). -/
theorem abortSnapshot_frame (s : State) (g : Group) : { s.abortSnapshot g with snap := s.snap, rep := s.rep } = s ∧
    (s.abortSnapshot g).rep.Behind s.rep ∧
    (∀ a : Arming, s.snap.state = .armed a → a.group = g →
      (s.abortSnapshot g).snap = SnapshotUnit.reset ∧ (s.abortSnapshot g).rep.Added s.rep (.snapshot false)) ∧
    ((∀ a : Arming, s.snap.state = .armed a → a.group ≠ g) → s.abortSnapshot g = s) := by
  unfold abortSnapshot
  split
  next a ha =>
    by_cases hg : a.group = g
    · rw [beq_iff_eq.mpr hg]
      refine ⟨rfl, s.rep.offerMarker_records _ _, fun _ _ _ => ⟨rfl, ?_⟩, fun h => absurd hg (h a ha)⟩
      exact s.rep.added_offerMarker _ (fun w => by cases w <;> rfl)
    · rw [beq_false_of_ne hg]
      exact ⟨rfl, .refl _, fun b hb hbg => absurd (SnapState.armed.inj (ha.symm.trans hb) ▸ hbg) hg, fun _ => rfl⟩
  all_goals
    next ha =>
      refine ⟨rfl, .refl _, fun b hb => ?_, fun _ => rfl⟩
      rw [ha] at hb
      cases hb

theorem judgeHold_fields (s : State) : s.judgeHold.ana = s.ana ∧ s.judgeHold.chk = s.chk ∧ s.judgeHold.latches = s.latches ∧
    s.judgeHold.snap = s.snap ∧ s.judgeHold.sources = s.sources ∧ s.judgeHold.fwd = s.fwd ∧ s.judgeHold.links = s.links ∧
    s.judgeHold.mgmt = { s.mgmt with hold := s.judgeHold.mgmt.hold } := by
  have h := s.judgeHold_frame
  have hmgmt : { s.judgeHold.mgmt with hold := s.mgmt.hold } = s.mgmt := (congrArg State.mgmt h :)
  refine ⟨(congrArg State.ana h :), (congrArg State.chk h :), (congrArg State.latches h :), (congrArg State.snap h :),
    (congrArg State.sources h :), (congrArg State.fwd h :), (congrArg State.links h :), ?_⟩
  rw [← hmgmt]

/-- What a quiesce taken with nothing pending leaves (R69, R186, R202); `u` is the state it is taken in. -/
structure QuiesceTaken (t u : State) (g : Group) : Prop where
  behind : t.rep.Behind u.rep
  noneOpen : t.noneOpen g
  settled : (u.group g).state ≠ .off → ∀ d : Desc, t.stateOf ⟨g, d⟩ ≠ .settling
  state : (t.group g).state = if (t.group g).inFlight then .quiescing else .quiesced
  quiesced : (t.group g).state = .quiesced → t.vector g = 0 ∧ t.latch g = none ∧ t.rep.Added u.rep (.groupQuiesced g)
  others : ∀ h : Group, h ≠ g → (t.group h).state = (u.group h).state ∧ t.vector h = u.vector h ∧ t.latch h = u.latch h
  aborted : ∀ a : Arming, u.snap.state = .armed a → a.group = g →
    t.snap = SnapshotUnit.reset ∧ t.rep.Added u.rep (.snapshot false)
  kept : (∀ a : Arming, u.snap.state = .armed a → a.group ≠ g) → t.snap = u.snap
  rest : t.sources = u.sources ∧ t.fwd = u.fwd ∧ t.links = u.links ∧ t.mgmt = { u.mgmt with hold := t.mgmt.hold }

/-- The windows discarded and settled, and the group QUIESCING: `QuiesceTaken` but for the judgement of the group. -/
structure Quiescing (t u : State) (g : Group) : Prop where
  behind : t.rep.Behind u.rep
  noneOpen : t.noneOpen g
  settled : (u.group g).state ≠ .off → ∀ d : Desc, t.stateOf ⟨g, d⟩ ≠ .settling
  state : (t.group g).state = .quiescing
  others : ∀ h : Group, h ≠ g → (t.group h).state = (u.group h).state
  checks : t.chk = u.chk ∧ t.latches = u.latches
  aborted : ∀ a : Arming, u.snap.state = .armed a → a.group = g →
    t.snap = SnapshotUnit.reset ∧ t.rep.Added u.rep (.snapshot false)
  kept : (∀ a : Arming, u.snap.state = .armed a → a.group ≠ g) → t.snap = u.snap
  rest : t.sources = u.sources ∧ t.fwd = u.fwd ∧ t.links = u.links ∧ t.mgmt = { u.mgmt with hold := t.mgmt.hold }

theorem quiescing_quiesce (h : u.WindowsOk) (h1 : (u.group g).state ≠ .quiescing) (h2 : (u.group g).state ≠ .quiesced) :
    ((u.abortSnapshot g).quiesce g).Quiescing u g := by
  obtain ⟨hframe, hbehind, haborted, hkept⟩ := u.abortSnapshot_frame g
  have hana : (u.abortSnapshot g).ana = u.ana := (congrArg State.ana hframe :)
  have hgroup : ∀ k : Group, (u.abortSnapshot g).group k = u.group k := fun k => by rw [group, hana]; rfl
  have hwindows : (u.abortSnapshot g).WindowsOk :=
    (windowsOk_iff _).mpr (((windowsOk_iff u).mp h).of_ana hana)
  obtain ⟨hnone, hsettled⟩ := quiesceWindows_none hwindows g
  have hstep := (u.abortSnapshot g).quiesceWindows_step g
  have hstate := (u.abortSnapshot g).quiesceWindows_state g
  rw [quiesce_eq (by rw [hgroup]; exact h1) (by rw [hgroup]; exact h2)]
  generalize (u.abortSnapshot g).quiesceWindows g = v at *
  have hmod : ∀ x : WinRef, (v.modGroup g (fun x => { x with state := .quiescing })).stateOf x = v.stateOf x := fun x =>
    v.stateOf_modGroup_same g (fun _ => rfl) x
  refine ⟨?_, fun d => ?_, fun hoff d => ?_, ?_, fun k hk => ?_, ⟨?_, ?_⟩, fun a ha hg => ?_, fun hn => ?_, ?_, ?_, ?_, ?_⟩
  · exact (congrArg (ReportQueue.Behind · u.rep) hstep.rep).mpr hbehind
  · rw [hmod]
    exact hnone d
  · rw [hmod]
    exact hsettled (by rw [hgroup]; exact hoff) d
  · rw [group_modGroup_self]
  · rw [v.group_modGroup_ne _ hk, hstate, hgroup]
  · exact hstep.chk.trans (congrArg State.chk hframe :)
  · exact hstep.latches.trans (congrArg State.latches hframe :)
  · obtain ⟨hsnap, hadded⟩ := haborted a ha hg
    exact ⟨hstep.snap.trans hsnap, (congrArg (ReportQueue.Added · u.rep _) hstep.rep).mpr hadded⟩
  · exact hstep.snap.trans (congrArg State.snap (hkept hn))
  · exact hstep.sources.trans (congrArg State.sources hframe :)
  · exact hstep.fwd.trans (congrArg State.fwd hframe :)
  · exact hstep.links.trans (congrArg State.links hframe :)
  · have hmgmt : v.mgmt = u.mgmt := hstep.mgmt.trans (congrArg State.mgmt hframe :)
    show v.mgmt = { u.mgmt with hold := v.mgmt.hold }
    rw [hmgmt]

/-- The management of a state, but for its hold, through the judgement of the hold. -/
theorem judgeHold_mgmt {m : Management} (h : s.mgmt = { m with hold := s.mgmt.hold }) :
    s.judgeHold.mgmt = { m with hold := s.judgeHold.mgmt.hold } :=
  s.judgeHold_fields.2.2.2.2.2.2.2.trans (congrArg (fun x : Management => { x with hold := s.judgeHold.mgmt.hold }) h)

/-- The judgement of the hold leaves a group QUIESCING, its windows as they are (R183). -/
theorem Quiescing.judgeHold (h : t.Quiescing u g) : t.judgeHold.Quiescing u g := by
  obtain ⟨hana, hchk, hlatches, hsnap, hsources, hfwd, hlinks, -⟩ := t.judgeHold_fields
  have hgroup : ∀ k : Group, t.judgeHold.group k = t.group k := fun k => by rw [group, hana]; rfl
  have hstateOf : ∀ x : WinRef, t.judgeHold.stateOf x = t.stateOf x := fun x => by rw [stateOf, hgroup]; rfl
  obtain ⟨tsources, tfwd, tlinks, tmgmt⟩ := h.rest
  refine ⟨(t.behind_judgeHold).trans h.behind, fun d => ?_, fun hoff d => ?_, ?_, fun k hk => ?_, ⟨hchk.trans h.checks.1,
    hlatches.trans h.checks.2⟩, fun a ha hg => ?_, fun hn => hsnap.trans (h.kept hn), hsources.trans tsources,
    hfwd.trans tfwd, hlinks.trans tlinks, judgeHold_mgmt tmgmt⟩
  · rw [hstateOf]
    exact h.noneOpen d
  · rw [hstateOf]
    exact h.settled hoff d
  · rw [hgroup]
    exact h.state
  · rw [hgroup]
    exact h.others k hk
  · obtain ⟨h1, h2⟩ := h.aborted a ha hg
    exact ⟨hsnap.trans h1, added_judgeHold h2 rfl⟩

/-- A QUIESCING group judged (R69). -/
theorem Quiescing.judged (h : t.Quiescing u g) (hidle : u.mgmt.commit = none) : (t.judgeQuiesced g).QuiesceTaken u g := by
  obtain ⟨hsources, hfwd, hlinks, hmgmt⟩ := h.rest
  have hvector : ∀ k, t.vector k = u.vector k := fun k => by rw [vector, h.checks.1]; rfl
  have hlatch : ∀ k, t.latch k = u.latch k := fun k => by rw [latch, h.checks.2]; rfl
  have htidle : t.mgmt.commit = none := by rw [hmgmt]; exact hidle
  rw [judgeQuiesced_eq htidle]
  split
  next hc =>
    obtain ⟨hframe, -, -, hrep⟩ := t.quiescedFrom_frame g
    have hgroup := t.quiescedFrom_group g
    have hself := (hgroup g).trans (if_pos rfl)
    have hstateOf : ∀ x : WinRef, (t.quiescedFrom g).stateOf x = t.stateOf x := fun x => by
      rw [stateOf, quiescedFrom_descs]
      rfl
    have hnotFlight : ((t.quiescedFrom g).group g).inFlight = false := by
      rw [hself]
      exact hc.2
    have hsnap : (t.quiescedFrom g).snap = t.snap := (congrArg State.snap hframe :)
    have hqmgmt : (t.quiescedFrom g).mgmt = t.mgmt := (congrArg State.mgmt hframe :)
    refine ⟨?_, fun d => ?_, fun hoff d => ?_, ?_, fun _ => ⟨?_, ?_, ?_⟩, fun k hk => ⟨?_, ?_, ?_⟩, fun a ha hg => ?_,
      fun hn => hsnap.trans (h.kept hn), (congrArg State.sources hframe : _ = t.sources).trans hsources,
      (congrArg State.fwd hframe : _ = t.fwd).trans hfwd, (congrArg State.links hframe : _ = t.links).trans hlinks, ?_⟩
    · rw [hrep]
      exact ReportQueue.Behind.trans (t.rep.offerMarker_records _ _) h.behind
    · rw [hstateOf]
      exact h.noneOpen d
    · rw [hstateOf]
      exact h.settled hoff d
    · rw [hnotFlight, hself]
      rfl
    · rw [quiescedFrom_vector, if_pos rfl]
    · rw [quiescedFrom_latch, if_pos rfl]
    · rw [hrep]
      exact (t.rep.added_offerMarker _ (fun w => by cases w <;> rfl)).before h.behind
    · rw [hgroup, if_neg hk]
      exact h.others k hk
    · rw [quiescedFrom_vector, if_neg hk, hvector]
    · rw [quiescedFrom_latch, if_neg hk, hlatch]
    · obtain ⟨h1, h2⟩ := h.aborted a ha hg
      rw [hrep]
      exact ⟨hsnap.trans h1, h2.offerMarker _ rfl⟩
    · rw [hqmgmt]
      exact hmgmt
  next hc =>
    have hflight : (t.group g).inFlight = true := Bool.eq_true_of_not_eq_false (fun hn => hc ⟨h.state, hn⟩)
    refine ⟨h.behind, h.noneOpen, h.settled, ?_, fun hq => ?_, fun k hk => ⟨h.others k hk, hvector k, hlatch k⟩, h.aborted,
      h.kept, hsources, hfwd, hlinks, hmgmt⟩
    · rw [hflight]
      exact h.state
    · exact absurd (h.state.symm.trans hq) (by decide)

theorem QuiesceTaken.judgeHold (h : t.QuiesceTaken u g) : t.judgeHold.QuiesceTaken u g := by
  obtain ⟨hana, hchk, hlatches, hsnap, hsources, hfwd, hlinks, -⟩ := t.judgeHold_fields
  have hgroup : ∀ k : Group, t.judgeHold.group k = t.group k := fun k => by rw [group, hana]; rfl
  have hstateOf : ∀ x : WinRef, t.judgeHold.stateOf x = t.stateOf x := fun x => by rw [stateOf, hgroup]; rfl
  have hvector : ∀ k : Group, t.judgeHold.vector k = t.vector k := fun k => by rw [vector, hchk]; rfl
  have hlatch : ∀ k : Group, t.judgeHold.latch k = t.latch k := fun k => by rw [latch, hlatches]; rfl
  obtain ⟨tsources, tfwd, tlinks, tmgmt⟩ := h.rest
  refine ⟨(t.behind_judgeHold).trans h.behind, fun d => ?_, fun hoff d => ?_, ?_, fun hq => ?_, fun k hk => ?_,
    fun a ha hg => ?_, fun hn => hsnap.trans (h.kept hn), hsources.trans tsources, hfwd.trans tfwd, hlinks.trans tlinks,
    judgeHold_mgmt tmgmt⟩
  · rw [hstateOf]
    exact h.noneOpen d
  · rw [hstateOf]
    exact h.settled hoff d
  · rw [hgroup]
    exact h.state
  · rw [hgroup] at hq
    obtain ⟨h1, h2, h3⟩ := h.quiesced hq
    rw [hvector, hlatch]
    exact ⟨h1, h2, added_judgeHold h3 rfl⟩
  · rw [hgroup, hvector, hlatch]
    exact h.others k hk
  · obtain ⟨h1, h2⟩ := h.aborted a ha hg
    exact ⟨hsnap.trans h1, added_judgeHold h2 rfl⟩

/-- A quiesce taken with no commit pending and no reset coming (R69, R186). -/
theorem takeQuiesce_taken (hcalm : u.calm) (h : u.WindowsOk) (h1 : (u.group g).state ≠ .quiescing)
    (h2 : (u.group g).state ≠ .quiesced) : (takeQuiesce g u).QuiesceTaken u g := by
  have htaken := (quiescing_quiesce h h1 h2).judgeHold.judged hcalm.1
  have hrest := htaken.rest
  show (State.finish _).QuiesceTaken u g
  rw [finish_of_calm]
  · exact htaken.judgeHold
  · obtain ⟨hcommit, hmark, hrestart⟩ := hcalm
    obtain ⟨-, -, hlinks, hmgmt⟩ := hrest
    exact ⟨hmgmt ▸ hcommit, hlinks ▸ hmark, hmgmt ▸ hrestart⟩

/-- A quiesce taken within a request that has just been taken and answered (R186). -/
theorem takeQuiesce_answered (r : Request) (hmark : s.links.markReset = none) (hidle : s.mgmt.commit = none)
    (hrestart : s.mgmt.restartMark = false) (h : s.WindowsOk) (h1 : (s.group g).state ≠ .quiescing)
    (h2 : (s.group g).state ≠ .quiesced) :
    (takeQuiesce g (s.answered r .accepted [])).QuiesceTaken (s.answered r .accepted []) g :=
  takeQuiesce_taken (u := s.answered r .accepted []) ⟨hidle, s.links.heardOnC_markReset.trans hmark, hrestart⟩
    ((windowsOk_iff _).mpr (((windowsOk_iff s).mp h).of_ana rfl)) h1 h2

/-- The queue behind a reply that has entered it. -/
theorem answered_records (r : Request) (st : Status) (d : List Byte) (hroom : s.rep.records.length < 64) :
    (s.answered r st d).rep.records = s.rep.records ++ [⟨r.source, .reply ⟨r.seq, r.code, st, d⟩⟩] :=
  congrArg ReportQueue.records (if_pos hroom : s.rep.withReply r st d = _)

end State

theorem ReportQueue.Behind.of_answered {q : ReportQueue} {s : State} {r : Request} {st : Status} {d : List Byte}
    (h : q.Behind (s.answered r st d).rep) (hroom : s.rep.records.length < 64) :
    ∃ rest : List Held, q.records = s.rep.records ++ ⟨r.source, .reply ⟨r.seq, r.code, st, d⟩⟩ :: rest := by
  obtain ⟨rest, hrest⟩ := h
  exact ⟨rest, by rw [hrest, s.answered_records r st d hroom, List.append_assoc]; rfl⟩

theorem ReportQueue.Added.of_answered {q : ReportQueue} {s : State} {r : Request} {st : Status} {d : List Byte} {m : Marker}
    (h : q.Added (s.answered r st d).rep m) (hroom : s.rep.records.length < 64) :
    ∃ rest : List Held, q.records = s.rep.records ++ ⟨r.source, .reply ⟨r.seq, r.code, st, d⟩⟩ :: rest ∧
      ((∃ x ∈ rest, x.record = .marker m) ∨ .marker m ∈ q.waiting) := by
  obtain ⟨rest, hrest, hm⟩ := h
  exact ⟨rest, by rw [hrest, s.answered_records r st d hroom, List.append_assoc]; rfl, hm⟩

/-- What a quiesce does to the Snapshot Unit (R202). -/
theorem State.QuiesceTaken.captureEnded {t u : State} {g : Group} (h : t.QuiesceTaken u g) :
    t.CaptureEnded u (fun k => k = g) where
  aborted a ha hg := (h.aborted a ha hg).imp_right ReportQueue.Added.shows
  kept := h.kept

/-! ## A resume taken (R70, R187) -/

/-- The group a resume leaves (R55, R70). -/
theorem GroupCtx.seekOrOff_fields (x : GroupCtx) (p : Plan) :
    (x.seekOrOff p).state = (if p.enabled then .seeking else .off) ∧ (x.seekOrOff p).arm = false ∧
      (x.seekOrOff p).lastRef = none ∧ (∀ c : Chan, (x.seekOrOff p).frontiers[c] = none) ∧
      (x.seekOrOff p).gen = x.gen ∧ (x.seekOrOff p).descs = x.descs := by
  have hempty : ∀ c : Chan, (Vector.replicate 8 (none : Option Tick))[c] = none := fun c => Vector.getElem_replicate _
  unfold GroupCtx.seekOrOff
  split
  · exact ⟨rfl, rfl, rfl, hempty, rfl, rfl⟩
  · exact ⟨rfl, rfl, rfl, hempty, rfl, rfl⟩

theorem State.resume_of_quiesced {s : State} {g : Group} (h : (s.group g).state = .quiesced) :
    s.resume g = s.modGroup g (fun x => x.seekOrOff (s.plan g)) :=
  if_pos (beq_iff_eq.mpr h)

/-! ## QUIESCE_GROUP and RESUME_GROUP (R186, R187) -/

theorem doQuiesceGroup_refused {r : Request} {s : State} {g : Group} (hg : fin8Of (r.param 0) = some g)
    (h : (s.group g).state = .quiescing ∨ (s.group g).state = .quiesced) :
    doQuiesceGroup r s = s.answer r .refused [] := by
  rw [doQuiesceGroup, hg]
  exact if_pos (by simpa using h)

theorem doQuiesceGroup_accepted {r : Request} {s : State} {g : Group} (hg : fin8Of (r.param 0) = some g)
    (h1 : (s.group g).state ≠ .quiescing) (h2 : (s.group g).state ≠ .quiesced) :
    doQuiesceGroup r s = takeQuiesce g (s.answer r .accepted []) := by
  rw [doQuiesceGroup, hg]
  exact if_neg (by simp [h1, h2])

theorem doResumeGroup_refused {r : Request} {s : State} {g : Group} (hg : fin8Of (r.param 0) = some g)
    (h : (s.group g).state ≠ .quiesced) : doResumeGroup r s = s.answer r .refused [] := by
  rw [doResumeGroup, hg]
  exact if_neg (by simp [h])

theorem doResumeGroup_done {r : Request} {s : State} {g : Group} (hg : fin8Of (r.param 0) = some g)
    (h : (s.group g).state = .quiesced) : doResumeGroup r s = (s.resume g).answer r .done [] := by
  rw [doResumeGroup, hg]
  exact if_pos (beq_iff_eq.mpr h)

/-- Settles O52: the hand-off of a QUIESCING group's window, and the actions of the two requests case by case. -/
theorem quiesceAndResume : Obligations.QuiesceAndResume := by
  refine ⟨fun s e hheld hengine hcalm hfree => ?_, fun s source seq a hs hsource => ?_⟩
  · intro g others hstate
    exact ⟨_, State.exec_evaluationEnd hheld hengine hcalm hfree, State.handOff_of_quiescing hcalm.1 hfree hstate⟩
  · intro r q
    have hr : exec (.quiesceGroup source seq [a]) s = .next (doQuiesceGroup r (s.taken r)) :=
      exec_taken (r := r) rfl hs hsource (by show 1 ≤ 238; decide) rfl
    have hq : exec (.resumeGroup source seq [a]) s = .next (doResumeGroup q (s.taken q)) :=
      exec_taken (r := q) rfl hs hsource (by show 1 ≤ 238; decide) rfl
    rw [hr, hq]
    refine ⟨fun ha => ⟨?_, ?_⟩, fun g hg => ?_⟩
    · rw [doQuiesceGroup, show fin8Of (r.param 0) = none from fin8Of_eq_none_iff.mpr ha, s.answer_taken]
    · rw [doResumeGroup, show fin8Of (q.param 0) = none from fin8Of_eq_none_iff.mpr ha, s.answer_taken]
    have hrg : fin8Of (r.param 0) = some g := fin8Of_eq_some_iff.mpr hg
    have hqg : fin8Of (q.param 0) = some g := fin8Of_eq_some_iff.mpr hg
    refine ⟨fun h => ?_, fun h => ?_, fun h => ?_, fun h1 h2 hwindows hidle hrestart => ?_⟩
    · rw [doQuiesceGroup_refused (s := s.taken r) hrg h, s.answer_taken]
    · rw [doResumeGroup_refused (s := s.taken q) hqg h, s.answer_taken]
    · rw [doResumeGroup_done (s := s.taken q) hqg h, State.resume_of_quiesced (s := s.taken q) h]
      have hgroup : ((s.modGroup g (fun x => x.seekOrOff (s.plan g))).group g) = (s.group g).seekOrOff (s.plan g) :=
        s.group_modGroup_self g _
      refine ⟨(s.modGroup g (fun x => x.seekOrOff (s.plan g))).answered q .done [], ?_, ?_, ?_⟩
      · exact congrArg Host.Outcome.next (State.answer_taken (s.modGroup g (fun x => x.seekOrOff (s.plan g))) q _ _)
      · show _ = ({ s.answered q .done [] with
          ana := { s.ana with groups := s.ana.groups.set g ((s.modGroup g (fun x => x.seekOrOff (s.plan g))).group g) } }
            : State)
        rw [hgroup]
        rfl
      · show let x := (s.modGroup g (fun x => x.seekOrOff (s.plan g))).group g
          x.state = _ ∧ x.arm = false ∧ x.lastRef = none ∧ (∀ c : Chan, x.frontiers[c] = none) ∧ x.gen = _ ∧ x.descs = _
        rw [hgroup]
        exact (s.group g).seekOrOff_fields (s.plan g)
    · rw [doQuiesceGroup_accepted (s := s.taken r) hrg h1 h2, s.answer_taken]
      have htaken := State.takeQuiesce_answered r hs.1.2.1 hidle hrestart hwindows h1 h2
      obtain ⟨hsources, hfwd, -, hmgmt⟩ := htaken.rest
      refine ⟨_, rfl, htaken.behind.of_answered, fun d => ⟨htaken.noneOpen d, fun hoff => htaken.settled hoff d⟩,
        htaken.state, fun hquiesced => ?_, htaken.others, ⟨htaken.captureEnded.aborted, htaken.captureEnded.kept⟩,
        hsources, hfwd, (congrArg Management.active hmgmt :), (congrArg Management.staging hmgmt :)⟩
      obtain ⟨hvector, hlatch, hadded⟩ := htaken.quiesced hquiesced
      exact ⟨hvector, hlatch, hadded.of_answered, hadded.shows⟩

end Sys2Proof.Machine
end

section
/-! What a completed commit leaves (R9, R11, R28, R38, R106, R177). -/

namespace Sys2Proof.Machine

namespace State

variable {s t u : State}

/-! ## The windows through the taking of new Part Settings -/

/-- What sources that go STALE do to the analysis, they do by the loss of their references (R41). -/
theorem staleWhere_keeps {P : Analysis → Prop}
    (hlost : ∀ (u : State) (gone : Node → Bool), u.mgmt.commit = none → P u.ana → P (u.nodesLost gone).ana)
    (p : SourceEntry → Bool) (hidle : s.mgmt.commit = none) (h : P s.ana) : P (s.staleWhere p).ana := by
  unfold staleWhere
  dsimp only
  split
  · exact hlost _ _ hidle h
  · exact h

theorem applyEnable_keeps {P : Analysis → Prop}
    (hlost : ∀ (u : State) (gone : Node → Bool), u.mgmt.commit = none → P u.ana → P (u.nodesLost gone).ana)
    (was : Bool) (hidle : s.mgmt.commit = none) (h : P s.ana) : P (s.applyEnable was).ana := by
  unfold applyEnable
  dsimp only
  split
  · show P (if s.isUp .s then s.leaveUp .s else s).ana
    split
    · exact staleWhere_keeps (s := (s.raise .linkDown).modPort .s _) hlost _ hidle h
    · exact h
  · split
    · exact h
    · exact h

theorem owePresence_ana (s : State) (was : Addr) : (s.owePresence was).ana = s.ana := by
  unfold owePresence
  split <;> rfl

/-- A property of the analysis that the loss of references keeps is kept by the new Part Settings (R177). -/
theorem applySettings_keeps {P : Analysis → Prop}
    (hlost : ∀ (u : State) (gone : Node → Bool), u.mgmt.commit = none → P u.ana → P (u.nodesLost gone).ana)
    (old : Settings) (hidle : s.mgmt.commit = none) (h : P s.ana) : P (s.applySettings old).ana := by
  rw [applySettings, owePresence_ana]
  exact staleWhere_keeps hlost _ ((applyEnable_idle old.portSEnable hidle) ▸ hidle)
    (applyEnable_keeps hlost old.portSEnable hidle h)

theorem applySettings_gens (old : Settings) (hidle : s.mgmt.commit = none) (g : Group) :
    ((s.applySettings old).group g).gen = (s.group g).gen :=
  applySettings_keeps (P := fun a => (a.groups[g]).gen = (s.group g).gen)
    (fun _ gone hu h => ((windowStep_nodesLost gone hu).gens g).trans h) old hidle rfl

theorem applySettings_lastVerdicts (old : Settings) (hidle : s.mgmt.commit = none) :
    (s.applySettings old).ana.lastVerdicts = s.ana.lastVerdicts :=
  applySettings_keeps (P := fun a => a.lastVerdicts = s.ana.lastVerdicts)
    (fun _ gone hu h => (windowStep_nodesLost gone hu).verdicts.trans h) old hidle rfl

/-! ## Port S takes a changed enable (R9, R28) -/

/-- What a changed enable leaves; `t` is the state after, `s` the one before. -/
structure EnableApplied (t s : State) (was : Bool) : Prop where
  rest : { t with links := s.links, fwd := s.fwd, sources := s.sources, ana := s.ana, disp := s.disp } = s
  links : t.links = { s.links with s :=
    if was = true ∧ s.settings.portSEnable = false then
      ({ s.links.s with tx := if s.links.s.link = .up then none else s.links.s.tx } : PortState).intoDown none
    else if was = false ∧ s.settings.portSEnable = true then s.links.s.intoSeek s.partAddr false false
    else s.links.s }
  fwd : t.fwd = { s.fwd with cToS := if was = true ∧ s.settings.portSEnable = false then [] else s.fwd.cToS }
  sources : t.sources = s.sources.map (staled (fun _ => was && !s.settings.portSEnable && s.links.s.link == .up))
  raised : ∀ k : EventKind, KindSet.has s.disp.pending k = true → KindSet.has t.disp.pending k = true
  lost : was = true → s.settings.portSEnable = false → s.links.s.link = .up →
    (∃ n : Node, s.sources[n].state = .tracking) → KindSet.has t.disp.pending .sourceLost = true
  down : was = true → s.settings.portSEnable = false → s.links.s.link = .up → KindSet.has t.disp.pending .linkDown = true

theorem map_staled_false (v : Vector SourceEntry 16) {p : SourceEntry → Bool} (h : ∀ e, p e = false) : v.map (staled p) = v := by
  refine Vector.ext (fun i hi => ?_)
  rw [Vector.getElem_map]
  exact if_neg (fun hc => by rw [h] at hc; exact Bool.false_ne_true hc.2)

/-- Port S left from UP. -/
theorem leaveUp_portS (hidle : s.mgmt.commit = none) :
    { s.leaveUp .s with links := s.links, sources := s.sources, ana := s.ana, disp := s.disp } = s ∧
      (s.leaveUp .s).links = { s.links with s := { s.links.s with tx := none } } ∧
      (s.leaveUp .s).sources = s.sources.map (staled (fun _ => true)) ∧
      (∀ k : EventKind, KindSet.has s.disp.pending k = true → KindSet.has (s.leaveUp .s).disp.pending k = true) ∧
      ((∃ n : Node, s.sources[n].state = .tracking) → KindSet.has (s.leaveUp .s).disp.pending .sourceLost = true) ∧
      KindSet.has (s.leaveUp .s).disp.pending .linkDown = true := by
  obtain ⟨hrest, hsources, hkept, hlost⟩ := staleWhere_frame (s := (s.raise .linkDown).modPort .s
    (fun x => { x with tx := none })) (fun _ => true) hidle
  exact ⟨(congrArg (fun x : State => { x with links := s.links, sources := s.sources, ana := s.ana, disp := s.disp }) hrest :),
    (congrArg State.links hrest :), hsources, fun k hk => hkept k (raised_raise s _ k hk), fun ⟨n, hn⟩ => hlost ⟨n, hn, rfl⟩,
    hkept _ (raised_raise_self s _)⟩

theorem applyEnable_applied (was : Bool) (hidle : s.mgmt.commit = none) : (s.applyEnable was).EnableApplied s was := by
  have hunlost := map_staled_false s.sources (p := fun _ => was && !s.settings.portSEnable && s.links.s.link == .up)
  unfold applyEnable
  dsimp only
  split
  next hoff =>
    obtain ⟨rfl, hnow⟩ : was = true ∧ s.settings.portSEnable = false := by simpa using hoff
    by_cases hup : s.links.s.link = .up
    · rw [if_pos ((s.isUp_iff .s).mpr hup)]
      obtain ⟨hrest, hlinks, hsources, hkept, hlost, hdown⟩ := s.leaveUp_portS hidle
      have hfwd : (s.leaveUp .s).fwd = s.fwd := (congrArg State.fwd hrest :)
      generalize s.leaveUp .s = u at *
      refine ⟨?_, ?_, ?_, ?_, hkept, fun _ _ _ => hlost, fun _ _ _ => hdown⟩
      · exact (congrArg (fun x : State => { x with fwd := s.fwd }) hrest :)
      · rw [if_pos ⟨rfl, hnow⟩, if_pos hup]
        exact (congrArg (fun l : Links => { l with s := l.s.intoDown none }) hlinks :)
      · rw [if_pos ⟨rfl, hnow⟩]
        exact (congrArg (fun x : Forwarding => { x with cToS := [] }) hfwd :)
      · rw [hnow, hup]
        exact hsources
    · rw [if_neg (fun h => hup ((s.isUp_iff .s).mp h))]
      refine ⟨rfl, ?_, ?_, ?_, fun _ hk => hk, fun _ _ h => absurd h hup, fun _ _ h => absurd h hup⟩
      · rw [if_pos ⟨rfl, hnow⟩, if_neg hup]
        rfl
      · rw [if_pos ⟨rfl, hnow⟩]
        rfl
      · exact (hunlost (fun _ => by simp [hup])).symm
  next hoff =>
    have hstays : ¬ (was = true ∧ s.settings.portSEnable = false) := fun h => hoff (by simp [h])
    have hsources := hunlost (fun _ => by
      cases was
      · rfl
      · rw [Bool.eq_true_of_not_eq_false (fun h => hstays ⟨rfl, h⟩)]
        rfl)
    split
    next hon =>
      obtain ⟨rfl, hnow⟩ : was = false ∧ s.settings.portSEnable = true := by simpa using hon
      refine ⟨rfl, ?_, ?_, hsources.symm, fun _ hk => hk, fun h => absurd h (by decide), fun h => absurd h (by decide)⟩
      · rw [if_neg hstays, if_pos ⟨rfl, hnow⟩]
        exact congrArg (fun x : PortState => { s.links with s := x }) (PortState.enterSeek_eq _ _ _ _)
      · rw [if_neg hstays]
        rfl
    next hon =>
      have hsame : ¬ (was = false ∧ s.settings.portSEnable = true) := fun h => hon (by simp [h])
      refine ⟨rfl, ?_, ?_, hsources.symm, fun _ hk => hk, fun h1 h2 => absurd ⟨h1, h2⟩ hstays, fun h1 h2 => absurd ⟨h1, h2⟩ hstays⟩
      · rw [if_neg hstays, if_neg hsame]
      · rw [if_neg hstays]

/-! ## New Part Settings taken by the other blocks (R177) -/

/-- What new Part Settings leave, `old` being those they replace; `t` is the state after, `s` the one before. -/
structure SettingsApplied (t s : State) (old : Settings) : Prop where
  rest : { t with links := s.links, fwd := s.fwd, sources := s.sources, ana := s.ana, disp := s.disp } = s
  links : t.links = { s.links with
    s :=
      if old.portSEnable = true ∧ s.settings.portSEnable = false then
        ({ s.links.s with tx := if s.links.s.link = .up then none else s.links.s.tx } : PortState).intoDown none
      else if old.portSEnable = false ∧ s.settings.portSEnable = true then s.links.s.intoSeek s.partAddr false false
      else s.links.s
    presenceOwed := s.links.presenceOwed || (s.partAddr != old.partAddr && s.links.c.link == .up) }
  fwd : t.fwd = { s.fwd with
    cToS := if old.portSEnable = true ∧ s.settings.portSEnable = false then [] else s.fwd.cToS }
  sources : t.sources = s.sources.map (staled (fun e =>
    (old.portSEnable && !s.settings.portSEnable && s.links.s.link == .up) ||
      decide (s.settings.staleMs * 20000 ≤ e.timer.getD 0)))
  raised : ∀ k : EventKind, KindSet.has s.disp.pending k = true → KindSet.has t.disp.pending k = true
  lost : (∃ n : Node, t.sources[n] ≠ s.sources[n]) → KindSet.has t.disp.pending .sourceLost = true
  down : old.portSEnable = true → s.settings.portSEnable = false → s.links.s.link = .up →
    KindSet.has t.disp.pending .linkDown = true

/-- A source that has gone STALE has no timer left to judge (R38, R40). -/
theorem staled_staled (p q : SourceEntry → Bool) (e : SourceEntry) :
    staled q (staled p e) = staled (fun x => p x || q x) e := by
  unfold staled
  by_cases ht : e.state = .tracking <;> by_cases hp : p e = true <;> simp [ht, hp]

theorem staled_ne {p : SourceEntry → Bool} {e : SourceEntry} (h : staled p e ≠ e) : e.state = .tracking ∧ p e = true := by
  by_contra hn
  exact h (if_neg hn)

theorem owePresence_eq (s : State) (was : Addr) : s.owePresence was =
    s.setOwed (s.links.presenceOwed || (s.partAddr != was && s.links.c.link == .up)) := by
  unfold owePresence
  show (if (s.partAddr != was && s.links.c.link == .up) = true then _ else _) = _
  cases h : (s.partAddr != was && s.links.c.link == .up)
  · rw [Bool.or_false]
    rfl
  · rw [Bool.or_true]
    rfl

theorem judgeStaleTimers_frame (hidle : s.mgmt.commit = none) :
    { s.judgeStaleTimers with sources := s.sources, ana := s.ana, disp := s.disp } = s ∧
      s.judgeStaleTimers.sources = s.sources.map (staled (fun e => decide (s.settings.staleMs * 20000 ≤ e.timer.getD 0))) ∧
      (∀ k : EventKind, KindSet.has s.disp.pending k = true → KindSet.has s.judgeStaleTimers.disp.pending k = true) ∧
      ((∃ n : Node, s.judgeStaleTimers.sources[n] ≠ s.sources[n]) →
        KindSet.has s.judgeStaleTimers.disp.pending .sourceLost = true) := by
  obtain ⟨hrest, hsources, hkept, hlost⟩ :=
    staleWhere_frame (s := s) (fun e => decide (s.settings.staleMs * 20000 ≤ e.timer.getD 0)) hidle
  refine ⟨hrest, hsources, hkept, fun ⟨n, hn⟩ => hlost ⟨n, ?_⟩⟩
  refine staled_ne (p := fun e => decide (s.settings.staleMs * 20000 ≤ e.timer.getD 0)) (fun h => hn ?_)
  refine (congrArg (fun v : Vector SourceEntry 16 => v[n]) hsources).trans ?_
  rw [Fin.getElem_fin, Vector.getElem_map]
  exact h

theorem applySettings_applied (old : Settings) (hidle : s.mgmt.commit = none) :
    (s.applySettings old).SettingsApplied s old := by
  obtain ⟨hrest, hlinks, hfwd, hsources, hkept, hlost, hdown⟩ := applyEnable_applied old.portSEnable hidle
  have hmgmt : (s.applyEnable old.portSEnable).mgmt = s.mgmt := (congrArg State.mgmt hrest :)
  rw [applySettings, owePresence_eq]
  generalize s.applyEnable old.portSEnable = u at *
  obtain ⟨vrest, vsources, vkept, vlost⟩ := judgeStaleTimers_frame (s := u) (hmgmt ▸ hidle)
  generalize u.judgeStaleTimers = v at *
  have hsettings : u.settings = s.settings := congrArg (fun m : Management => m.active.settings) hmgmt
  have hvaddr : v.partAddr = s.partAddr :=
    congrArg Settings.partAddr ((congrArg (fun x : State => x.mgmt.active.settings) vrest :).trans hsettings)
  have hvlinks : v.links = u.links := (congrArg State.links vrest :)
  rw [hsettings] at vsources
  refine ⟨?_, ?_, (congrArg State.fwd vrest : _ = u.fwd).trans hfwd, ?_, fun k hk => vkept k (hkept k hk), fun ⟨n, hn⟩ => ?_,
    fun h1 h2 h3 => vkept _ (hdown h1 h2 h3)⟩
  · rw [← hrest, ← vrest]
    rfl
  · show ({ v.links with presenceOwed := v.links.presenceOwed || (v.partAddr != old.partAddr && v.links.c.link == .up) }
      : Links) = _
    rw [hvaddr, hvlinks, hlinks]
  · show v.sources = _
    rw [vsources, hsources, Vector.map_map]
    exact congrArg (fun f => s.sources.map f) (funext (fun e => staled_staled _ _ e))
  · by_cases hfirst : u.sources[n] = s.sources[n]
    · exact vlost ⟨n, fun e => hn (e.trans hfirst)⟩
    · rw [hsources, Fin.getElem_fin, Vector.getElem_map] at hfirst
      obtain ⟨htracking, hp⟩ := staled_ne hfirst
      obtain ⟨⟨hwas, hnow⟩, hup⟩ : (old.portSEnable = true ∧ s.settings.portSEnable = false) ∧ s.links.s.link = .up := by
        simpa using hp
      exact vkept _ (hlost hwas hnow hup ⟨n, htracking⟩)

/-! ## The completion of a commit (R177) -/

/-- The state in which the other blocks take a completion: the banks replaced, and the marker offered. -/
def adopted (s : State) (c : Commit) : State := (s.adoptStaging c).offerMarker (.commitDone c.stagingGen c.forced)

theorem complete_eq {c : Commit} (h : s.mgmt.commit = some c) : s.complete = (s.adopted c).applySettings s.settings := by
  rw [complete, h]
  rfl

/-- A COMMIT_DONE marker stands as it was offered, or waits with at least its forced count (R156, R177). -/
theorem offerMarker_done (q : ReportQueue) (dest : Addr) (gen : Gen) {forced : Nat} (h : forced ≤ 255) :
    (⟨dest, .marker (.commitDone gen forced)⟩ : Held) ∈ (q.offerMarker dest (.commitDone gen forced)).records ∨
      ∃ k : Nat, forced ≤ k ∧ .marker (.commitDone gen k) ∈ (q.offerMarker dest (.commitDone gen forced)).waiting := by
  by_cases hroom : q.records.length < 64
  · rw [ReportQueue.offerMarker_room hroom]
    exact .inl (List.mem_append_right _ (List.mem_singleton.mpr rfl))
  · rw [ReportQueue.offerMarker_full (Nat.not_lt.mp hroom)]
    refine .inr ?_
    cases hmerge : mergeWaiting (.commitDone gen forced) q.waiting with
    | none => exact ⟨forced, le_refl _, List.mem_append_right _ (List.mem_singleton.mpr rfl)⟩
    | some l =>
      obtain ⟨before, after, w, hw, -, rfl⟩ := exists_of_mergeWaiting hmerge
      cases w with
      | commitDone g n =>
        exact ⟨min 255 (n + forced), by omega, List.mem_append_right _ (List.mem_cons_self ..)⟩
      | holdEffective => cases hw
      | holdEnded _ _ => cases hw
      | groupQuiesced _ => cases hw
      | snapshot _ => cases hw

/-- What a completion leaves of the blocks. -/
theorem complete_completed {c : Commit} (h : s.mgmt.commit = some c) (hforced : c.forced ≤ 255) :
    s.complete.CompletedFrom s c.stagingGen c.forced := by
  have happlied := applySettings_applied (s := s.adopted c) s.settings rfl
  rw [complete_eq h]
  obtain ⟨hrest, hlinks, hfwd, hsources, -, hlost, hdown⟩ := happlied
  have hrep : ((s.adopted c).applySettings s.settings).rep =
      s.rep.offerMarker s.mgmt.staging.settings.reportDest (.commitDone c.stagingGen c.forced) := (congrArg State.rep hrest :)
  refine ⟨⟨(congrArg (fun x : State => x.mgmt.active) hrest :), (congrArg (fun x : State => x.mgmt.activeGen) hrest :),
    (congrArg (fun x : State => x.chk.staging) hrest :)⟩, (congrArg Links.s hlinks :), ?_, (congrArg Links.presenceOwed hlinks :),
    hfwd, fun n => ?_, hlost, hdown, ?_⟩
  · rw [hlinks]
    rfl
  · rw [hsources, Fin.getElem_fin, Vector.getElem_map]
    show staled _ s.sources[n] = _
    unfold staled
    refine if_congr (and_congr_right fun _ => ?_) rfl rfl
    simp only [Bool.or_eq_true, Bool.and_eq_true, Bool.not_eq_true', beq_iff_eq, decide_eq_true_eq, and_assoc]
    rfl
  · rw [hrep]
    exact offerMarker_done _ _ _ hforced

end State

end Sys2Proof.Machine
end

section
/-! Groups switched to a pending commit, one after the other (R71, R73, R105, R120, R178 to R180, R201). -/

namespace Sys2Proof.Machine

namespace State

variable {s t u : State} {c : Commit}

/-- What the switches of some groups leave of a pending commit, each group switched in the state given; `t` is the state
after, `s` the one before. -/
structure SwitchedTo (t s : State) (c : Commit) (groups : Group → Prop) (into : Group → GroupState) : Prop where
  commit : ∃ x : GroupSet, t.mgmt = { s.mgmt with commit := some { c with switched := x } } ∧
    ∀ g : Group, GroupSet.has x g = true ↔ GroupSet.has c.switched g = true ∨ groups g
  switched : ∀ g : Group, groups g → (t.group g).gen = c.stagingGen ∧ (t.group g).state = into g ∧ t.vector g = 0 ∧
    t.latch g = none ∧ t.ana.lastVerdicts[g] = none
  kept : ∀ g : Group, ¬ groups g → t.group g = s.group g ∧ t.vector g = s.vector g ∧ t.latch g = s.latch g ∧
    t.ana.lastVerdicts[g] = s.ana.lastVerdicts[g]
  aborted : (∃ a : Arming, s.snap.state = .armed a ∧ groups a.group) →
    t.snap = SnapshotUnit.reset ∧ t.rep = s.rep.offerMarker s.settings.reportDest (.snapshot false)
  unaborted : (¬ ∃ a : Arming, s.snap.state = .armed a ∧ groups a.group) → t.snap = s.snap ∧ t.rep = s.rep
  outside : t.outside = s.outside
  disp : t.disp = s.disp

namespace SwitchedTo

variable {groups more : Group → Prop} {into other : Group → GroupState}

theorem congr (h : t.SwitchedTo s c groups into) (hg : ∀ g, groups g ↔ more g) (hi : ∀ g, groups g → into g = other g) :
    t.SwitchedTo s c more other := by
  obtain rfl : groups = more := funext (fun g => propext (hg g))
  refine { h with switched := fun g hgroup => ?_ }
  obtain ⟨hgen, hstate, hrest⟩ := h.switched g hgroup
  exact ⟨hgen, hstate.trans (hi g hgroup), hrest⟩

theorem none (h : s.mgmt.commit = some c) : s.SwitchedTo s c (fun _ => False) into where
  commit := ⟨c.switched, by rw [← h], fun _ => (or_iff_left id).symm⟩
  switched _ h := h.elim
  kept _ _ := ⟨rfl, rfl, rfl, rfl⟩
  aborted := fun ⟨_, _, h⟩ => h.elim
  unaborted _ := ⟨rfl, rfl⟩
  outside := rfl
  disp := rfl

/-- Switches of some groups, and then of others. -/
theorem trans {x : GroupSet} (h : t.SwitchedTo s c groups into) (k : u.SwitchedTo t { c with switched := x } more into)
    (hx : t.mgmt.commit = some { c with switched := x }) : u.SwitchedTo s c (fun g => groups g ∨ more g) into := by
  obtain ⟨y, hmgmt, hy⟩ := h.commit
  obtain ⟨z, umgmt, hz⟩ := k.commit
  obtain rfl : x = y := by
    rw [hmgmt] at hx
    exact (congrArg Commit.switched (Option.some.inj hx)).symm
  have hdest : t.settings = s.settings := (congrArg (fun m : Management => m.active.settings) hmgmt :)
  refine ⟨⟨z, by rw [umgmt, hmgmt], fun g => ?_⟩, fun g hg => ?_, fun g hg => ?_, fun ⟨a, ha, hg⟩ => ?_, fun hn => ?_,
    k.outside.trans h.outside, k.disp.trans h.disp⟩
  · rw [hz, hy, or_assoc]
  · by_cases hmore : more g
    · exact k.switched g hmore
    · obtain ⟨hgroup, hvector, hlatch, hverdict⟩ := k.kept g hmore
      rw [hgroup, hvector, hlatch, hverdict]
      exact h.switched g (hg.resolve_right hmore)
  · obtain ⟨hgroup, hvector, hlatch, hverdict⟩ := k.kept g (fun hm => hg (.inr hm))
    rw [hgroup, hvector, hlatch, hverdict]
    exact h.kept g (fun hm => hg (.inl hm))
  · by_cases hfirst : ∃ b : Arming, s.snap.state = .armed b ∧ groups b.group
    · obtain ⟨hsnap, hrep⟩ := h.aborted hfirst
      obtain ⟨usnap, urep⟩ := k.unaborted (fun ⟨b, hb, _⟩ => by rw [hsnap] at hb; cases hb)
      exact ⟨usnap.trans hsnap, urep.trans hrep⟩
    · obtain ⟨hsnap, hrep⟩ := h.unaborted hfirst
      have hmore : more a.group := hg.resolve_left (fun hg => hfirst ⟨a, ha, hg⟩)
      obtain ⟨usnap, urep⟩ := k.aborted ⟨a, by rw [hsnap]; exact ha, hmore⟩
      exact ⟨usnap, by rw [urep, hrep, hdest]⟩
  · obtain ⟨hsnap, hrep⟩ := h.unaborted (fun ⟨a, ha, hg⟩ => hn ⟨a, ha, .inl hg⟩)
    obtain ⟨usnap, urep⟩ := k.unaborted (fun ⟨a, ha, hg⟩ => hn ⟨a, by rw [← hsnap]; exact ha, .inr hg⟩)
    exact ⟨usnap.trans hsnap, urep.trans hrep⟩

end SwitchedTo

/-! ## One group -/

/-- An armed capture of a group ended, its unit and its marker. -/
theorem abortSnapshot_cases (s : State) (g : Group) :
    ((∃ a : Arming, s.snap.state = .armed a ∧ a.group = g) → s.abortSnapshot g = { s with
      snap := SnapshotUnit.reset, rep := s.rep.offerMarker s.settings.reportDest (.snapshot false) }) ∧
    ((¬ ∃ a : Arming, s.snap.state = .armed a ∧ a.group = g) → s.abortSnapshot g = s) := by
  unfold abortSnapshot
  split
  next a ha =>
    by_cases hg : a.group = g
    · rw [if_pos (beq_iff_eq.mpr hg)]
      exact ⟨fun _ => rfl, fun h => absurd ⟨a, ha, hg⟩ h⟩
    · rw [if_neg (fun h => hg (beq_iff_eq.mp h))]
      exact ⟨fun ⟨b, hb, hbg⟩ => absurd (SnapState.armed.inj (ha.symm.trans hb) ▸ hbg) hg, fun _ => rfl⟩
  all_goals
    next ha => exact ⟨fun ⟨b, hb, _⟩ => (by rw [ha] at hb; cases hb), fun _ => rfl⟩

/-- A switch but for the capture it ends (R71, R105, R120, R179). -/
def switchUncaptured (s : State) (c : Commit) (g : Group) : State :=
  let s1 := s.modGroup g (fun x => { x with gen := c.stagingGen, rejects := 0 })
  let s2 := s1.setMgmt { s1.mgmt with commit := some { c with switched := GroupSet.set c.switched g } }
  let s3 := (s2.clearChecks g).setLatch g none
  s3.setAna { s3.ana with lastVerdicts := s3.ana.lastVerdicts.set g none }

theorem switchGroup_eq (h : s.mgmt.commit = some c) (g : Group) :
    s.switchGroup g = (s.switchUncaptured c g).abortSnapshot g := by
  rw [switchGroup, h]
  rfl

/-- The checks and the latch of a group cleared (R105, R120). -/
theorem clearChecks_frame (s : State) (g : Group) :
    { (s.clearChecks g).setLatch g none with chk := s.chk, latches := s.latches, pins := s.pins } = s ∧
      ((s.clearChecks g).setLatch g none).chk.vectors = s.chk.vectors.set g 0 ∧
      ((s.clearChecks g).setLatch g none).latches = s.latches.set g none := by
  rw [clearChecks, setLimitStates_eq]
  exact ⟨rfl, rfl, rfl⟩

theorem switchUncaptured_frame (s : State) (c : Commit) (g : Group) :
    { s.switchUncaptured c g with ana := s.ana, chk := s.chk, latches := s.latches, pins := s.pins, mgmt := s.mgmt } = s ∧
      (s.switchUncaptured c g).mgmt = { s.mgmt with commit := some { c with switched := GroupSet.set c.switched g } } ∧
      (s.switchUncaptured c g).chk.vectors = s.chk.vectors.set g 0 ∧
      (s.switchUncaptured c g).latches = s.latches.set g none ∧
      (s.switchUncaptured c g).ana.lastVerdicts = s.ana.lastVerdicts.set g none := by
  obtain ⟨hframe, hvectors, hlatches⟩ := ((s.modGroup g (fun x => { x with gen := c.stagingGen, rejects := 0 })).setMgmt
    { s.mgmt with commit := some { c with switched := GroupSet.set c.switched g } }).clearChecks_frame g
  refine ⟨?_, (congrArg State.mgmt hframe :), hvectors, hlatches, ?_⟩
  · exact (congrArg (fun x : State =>
      { x with ana := s.ana, chk := s.chk, latches := s.latches, pins := s.pins, mgmt := s.mgmt }) hframe :)
  · exact (congrArg (fun x : State => x.ana.lastVerdicts.set g none) hframe :)

theorem switchGroup_switchedTo (h : s.mgmt.commit = some c) (g : Group) {into : Group → GroupState}
    (hinto : into g = (s.group g).state) : (s.switchGroup g).SwitchedTo s c (fun k => k = g) into := by
  have hgroup := group_switchGroup h g
  have houtside := s.outside_switchGroup g
  rw [switchGroup_eq h] at *
  obtain ⟨hframe, hmgmt, hvectors, hlatches, hverdicts⟩ := s.switchUncaptured_frame c g
  obtain ⟨haborted, hunaborted⟩ := (s.switchUncaptured c g).abortSnapshot_cases g
  have hrest := (abortSnapshot_frame (s.switchUncaptured c g) g).1
  have hsnap : (s.switchUncaptured c g).snap = s.snap := (congrArg State.snap hframe :)
  have hrep : (s.switchUncaptured c g).rep = s.rep := (congrArg State.rep hframe :)
  have hdisp : (s.switchUncaptured c g).disp = s.disp := (congrArg State.disp hframe :)
  have hsettings : (s.switchUncaptured c g).settings = s.settings := (congrArg (fun m : Management => m.active.settings) hmgmt :)
  rw [hsnap] at haborted hunaborted
  rw [hrep, hsettings] at haborted
  generalize s.switchUncaptured c g = u at *
  have hvector : ∀ k : Group, (u.abortSnapshot g).vector k = if k = g then 0 else s.vector k := fun k =>
    (congrArg (fun x : State => x.vector k) hrest : _ = u.vector k).trans (vector_of_set hvectors k)
  have hlatch : ∀ k : Group, (u.abortSnapshot g).latch k = if k = g then none else s.latch k := fun k => by
    refine (congrArg (fun x : State => x.latch k) hrest : _ = u.latch k).trans ?_
    rw [latch, hlatches, Fin.getElem_fin, Vector.getElem_set]
    exact if_congr ⟨fun e => Fin.ext e.symm, fun e => by rw [e]⟩ rfl rfl
  have hverdict : ∀ k : Group, (u.abortSnapshot g).ana.lastVerdicts[k] = if k = g then none else s.ana.lastVerdicts[k] :=
    fun k => by
      refine (congrArg (fun x : State => x.ana.lastVerdicts[k]) hrest : _ = u.ana.lastVerdicts[k]).trans ?_
      rw [hverdicts, Fin.getElem_fin, Vector.getElem_set]
      exact if_congr ⟨fun e => Fin.ext e.symm, fun e => by rw [e]⟩ rfl rfl
  refine ⟨⟨GroupSet.set c.switched g, (congrArg State.mgmt hrest : _ = u.mgmt).trans hmgmt, fun k => ?_⟩, fun k hk => ?_,
    fun k hk => ?_, fun ⟨a, ha, hg⟩ => ?_, fun hn => ?_, houtside, (congrArg State.disp hrest : _ = u.disp).trans hdisp⟩
  · rw [GroupSet.has_set, Bool.or_eq_true, decide_eq_true_eq, eq_comm (a := g)]
  · obtain rfl : k = g := hk
    rw [hvector, hlatch, hverdict, hgroup, if_pos rfl, if_pos rfl, if_pos rfl, if_pos rfl]
    exact ⟨rfl, hinto.symm, rfl, rfl, rfl⟩
  · have hk : k ≠ g := hk
    rw [hvector, hlatch, hverdict, hgroup, if_neg hk, if_neg hk, if_neg hk, if_neg hk]
    exact ⟨rfl, rfl, rfl, rfl⟩
  · rw [haborted ⟨a, ha, hg⟩]
    exact ⟨rfl, rfl⟩
  · rw [hunaborted hn]
    exact ⟨hsnap, hrep⟩

/-- A switched group changed in what its generation and its checks do not read. -/
theorem SwitchedTo.modGroup {groups : Group → Prop} {into other : Group → GroupState} (h : t.SwitchedTo s c groups into)
    {g : Group} (hg : groups g) {f : GroupCtx → GroupCtx} (hgen : (f (t.group g)).gen = (t.group g).gen)
    (hstate : (f (t.group g)).state = other g) (hother : ∀ k, k ≠ g → groups k → into k = other k) :
    (t.modGroup g f).SwitchedTo s c groups other where
  commit := h.commit
  switched k hk := by
    obtain ⟨kgen, kstate, kchecks⟩ := h.switched k hk
    refine ⟨?_, ?_, kchecks⟩
    · by_cases hkg : k = g
      · subst hkg
        rw [group_modGroup_self, hgen, kgen]
      · rw [t.group_modGroup_ne _ hkg, kgen]
    · by_cases hkg : k = g
      · subst hkg
        rw [group_modGroup_self, hstate]
      · rw [t.group_modGroup_ne _ hkg, kstate, hother k hkg hk]
  kept k hk := by
    obtain ⟨kgroup, kchecks⟩ := h.kept k hk
    exact ⟨(t.group_modGroup_ne _ (fun e => hk (by rw [e]; exact hg))).trans kgroup, kchecks⟩
  aborted := h.aborted
  unaborted := h.unaborted
  outside := (t.windowStep_modGroup g hgen).outside.trans h.outside
  disp := h.disp

/-- The plan a group has switched to (R47, R71). -/
theorem SwitchedTo.plan {groups : Group → Prop} {into : Group → GroupState} (h : t.SwitchedTo s c groups into)
    {g : Group} (hg : groups g) : t.plan g = s.mgmt.staging.plans[g] := by
  obtain ⟨x, hmgmt, -⟩ := h.commit
  have hreads : t.readsStaging g = true :=
    (readsStaging_iff t g).mpr ⟨_, congrArg Management.commit hmgmt, (h.switched g hg).1⟩
  rw [State.plan, groupBank_eq, if_pos hreads, hmgmt]

/-- A group switched, and SEEKING or OFF by its new plan (R71). -/
theorem switchSeekOrOff_switchedTo (h : s.mgmt.commit = some c) (g : Group) {into : Group → GroupState}
    (hinto : into g = if s.mgmt.staging.plans[g].enabled then .seeking else .off) :
    ((s.switchGroup g).takeSeekOrOff g).SwitchedTo s c (fun k => k = g) into := by
  have hswitched := switchGroup_switchedTo h g (into := fun k => (s.group k).state) rfl
  refine hswitched.modGroup rfl (GroupCtx.seekOrOff_gen _ _) ?_ (fun k hk hg => absurd hg hk)
  rw [hswitched.plan rfl, hinto]
  exact (GroupCtx.seekOrOff_fields _ _).1

/-! ## The groups one after the other -/

/-- Groups that switch in turn: each by the condition on its state and its switched flag, into the state that its own and
its new plan give. -/
theorem foldl_switchedTo {f : State → Group → State} {q : GroupState → Bool → Prop} {a : GroupState → Plan → GroupState}
    (hf : ∀ {s : State} {c : Commit}, s.mgmt.commit = some c → ∀ g : Group, (f s g).SwitchedTo s c
      (fun k => k = g ∧ q (s.group k).state (GroupSet.has c.switched k))
      (fun k => a (s.group k).state s.mgmt.staging.plans[k])) :
    ∀ (gs : List Group) {s : State} {c : Commit}, gs.Nodup → s.mgmt.commit = some c → (gs.foldl f s).SwitchedTo s c
      (fun k => k ∈ gs ∧ q (s.group k).state (GroupSet.has c.switched k))
      (fun k => a (s.group k).state s.mgmt.staging.plans[k])
  | [], s, c, _, h => (SwitchedTo.none (into := fun _ => .off) h).congr (fun k => by simp) (fun _ hn => hn.elim)
  | g :: gs, s, c, hnodup, h => by
    obtain ⟨hnew, hrest⟩ := List.nodup_cons.mp hnodup
    have hfirst := hf h g
    obtain ⟨x, hmgmt, hx⟩ := hfirst.commit
    have hcommit : (f s g).mgmt.commit = some { c with switched := x } := congrArg Management.commit hmgmt
    have hgroup : ∀ k ∈ gs, (f s g).group k = s.group k := fun k hk =>
      (hfirst.kept k (fun hkg => hnew (hkg.1 ▸ hk))).1
    have hflag : ∀ k ∈ gs, GroupSet.has x k = GroupSet.has c.switched k := fun k hk =>
      Bool.eq_iff_iff.mpr ((hx k).trans (or_iff_left (fun hkg => hnew (hkg.1 ▸ hk))))
    have hthen := (foldl_switchedTo hf gs hrest hcommit).congr (fun k => and_congr_right fun hk => by
      rw [hgroup k hk, hflag k hk]) (other := fun k => a (s.group k).state s.mgmt.staging.plans[k]) (fun k hk => by
      rw [hgroup k hk.1, hmgmt])
    refine (hfirst.trans hthen hcommit).congr (fun k => ?_) (fun _ _ => rfl)
    rw [List.mem_cons, or_and_right]

end State

end Sys2Proof.Machine
end

section
/-! The checks of COMMIT (R46, R54, R87, R93, R113, R172, R175). -/

namespace Sys2Proof.Machine

/-! ## The first entry that fails -/

theorem firstIndex_eq_some {α : Type} {p : α → Bool} : ∀ {l : List α} (i : Nat) {k : Nat} (hk : k < l.length),
    p l[k] = true → (∀ (j : Nat) (hj : j < k), p (l[j]'(Nat.lt_trans hj hk)) = false) → firstIndex p i l = some (i + k)
  | x :: xs, i, 0, _, h, _ => by
    rw [firstIndex, if_pos (by exact h), Nat.add_zero]
  | x :: xs, i, k + 1, hk, h, hbefore => by
    have hx : p x = false := hbefore 0 (Nat.succ_pos k)
    rw [firstIndex, if_neg (by rw [hx]; exact Bool.false_ne_true), firstIndex_eq_some (i + 1) (Nat.lt_of_succ_lt_succ hk) h
      (fun j hj => hbefore (j + 1) (Nat.succ_lt_succ hj))]
    exact congrArg some (by omega)

theorem firstIndex_eq_none {α : Type} {p : α → Bool} : ∀ {l : List α} (i : Nat), (∀ x ∈ l, p x = false) →
    firstIndex p i l = none
  | [], _, _ => rfl
  | x :: xs, i, h => by
    rw [firstIndex, if_neg (by rw [h x (List.mem_cons_self ..)]; exact Bool.false_ne_true)]
    exact firstIndex_eq_none (i + 1) (fun y hy => h y (List.mem_cons_of_mem x hy))

/-- The lowest index of a table at which an entry fails. -/
theorem firstIndex_toList {α : Type} {n : Nat} {v : Vector α n} {p : α → Bool} {bad : Fin n → Prop}
    (hbad : ∀ i : Fin n, bad i ↔ p v[i] = true) :
    (∀ i : Fin n, bad i → (∀ j : Fin n, j < i → ¬ bad j) → firstIndex p 0 v.toList = some i.val) ∧
      ((∀ i : Fin n, ¬ bad i) → firstIndex p 0 v.toList = none) := by
  have hlength : v.toList.length = n := v.length_toList
  refine ⟨fun i hi hbefore => ?_, fun hnone => firstIndex_eq_none 0 (fun x hx => ?_)⟩
  · refine (firstIndex_eq_some (k := i.val) 0 (by omega) ?_ (fun j hj => ?_)).trans (congrArg some (Nat.zero_add _))
    · simpa using (hbad i).mp hi
    · have hgood := (not_congr (hbad ⟨j, by omega⟩)).mp (hbefore ⟨j, by omega⟩ hj)
      simpa using hgood
  · obtain ⟨j, hj, rfl⟩ := List.mem_iff_getElem.mp hx
    have hgood := (not_congr (hbad ⟨j, by omega⟩)).mp (hnone _)
    simpa using hgood

/-! ## The Channel Map (R46) -/

theorem mapFailure_eq_some : ∀ {l : List MapEntry} (i : Nat) {seen : List MapEntry} {k : Nat} (hk : k < l.length),
    (∃ f, (f ∈ seen ∨ f ∈ l.take k) ∧ l[k].collides f = true) →
    (∀ (j : Nat) (hj : j < k), ¬ ∃ f, (f ∈ seen ∨ f ∈ l.take j) ∧ (l[j]'(Nat.lt_trans hj hk)).collides f = true) →
    mapFailure i seen l = some (i + k)
  | e :: es, i, seen, 0, _, h, _ => by
    obtain ⟨f, hf, hcollides⟩ := h
    have hseen : f ∈ seen := hf.resolve_right (by simp)
    have hcollides : e.collides f = true := hcollides
    rw [mapFailure, if_pos (List.any_eq_true.mpr ⟨f, hseen, hcollides⟩), Nat.add_zero]
  | e :: es, i, seen, k + 1, hk, h, hbefore => by
    have hfirst := hbefore 0 (Nat.succ_pos k)
    have hmoved : ∀ (j : Nat) (f : MapEntry), (f ∈ e :: seen ∨ f ∈ es.take j) ↔ (f ∈ seen ∨ f ∈ (e :: es).take (j + 1)) :=
      fun j f => by rw [List.take_succ_cons, List.mem_cons, List.mem_cons]; tauto
    rw [mapFailure, if_neg, mapFailure_eq_some (i + 1) (k := k) (Nat.lt_of_succ_lt_succ hk)]
    · exact congrArg some (by omega)
    · simpa only [hmoved, List.getElem_cons_succ] using h
    · intro j hj
      simpa only [hmoved, List.getElem_cons_succ] using hbefore (j + 1) (Nat.succ_lt_succ hj)
    · intro hany
      obtain ⟨f, hf, hcollides⟩ := List.any_eq_true.mp hany
      exact hfirst ⟨f, .inl hf, hcollides⟩

theorem mapFailure_eq_none : ∀ {l : List MapEntry} (i : Nat) {seen : List MapEntry},
    (∀ (j : Nat) (hj : j < l.length), ¬ ∃ f, (f ∈ seen ∨ f ∈ l.take j) ∧ l[j].collides f = true) →
    mapFailure i seen l = none
  | [], _, _, _ => rfl
  | e :: es, i, seen, h => by
    have hfirst := h 0 (Nat.succ_pos _)
    rw [mapFailure, if_neg]
    · refine mapFailure_eq_none (i + 1) (fun j hj ⟨f, hf, hcollides⟩ => h (j + 1) (Nat.succ_lt_succ hj) ⟨f, ?_, hcollides⟩)
      rw [List.take_succ_cons, List.mem_cons]
      rw [List.mem_cons] at hf
      tauto
    · intro hany
      obtain ⟨f, hf, hcollides⟩ := List.any_eq_true.mp hany
      exact hfirst ⟨f, .inl hf, hcollides⟩

namespace Bank

variable {b : Bank}

/-- A valid entry of the Channel Map that collides with one of lower index (R46). -/
def Clash (b : Bank) (i : Fin 64) : Prop :=
  b.channelMap[i].valid = true ∧ ∃ j : Fin 64, j < i ∧ b.channelMap[j].valid = true ∧
    ((b.channelMap[i].node = b.channelMap[j].node ∧ b.channelMap[i].slot = b.channelMap[j].slot) ∨
      (b.channelMap[i].group = b.channelMap[j].group ∧ b.channelMap[i].chan = b.channelMap[j].chan))

theorem clash_iff (b : Bank) (i : Fin 64) : b.Clash i ↔
    ∃ f, (f ∈ [] ∨ f ∈ b.channelMap.toList.take i.val) ∧ b.channelMap[i].collides f = true := by
  have hlength : b.channelMap.toList.length = 64 := b.channelMap.length_toList
  have hcollides : ∀ f : MapEntry, b.channelMap[i].collides f = true ↔ b.channelMap[i].valid = true ∧ f.valid = true ∧
      ((b.channelMap[i].node = f.node ∧ b.channelMap[i].slot = f.slot) ∨
        (b.channelMap[i].group = f.group ∧ b.channelMap[i].chan = f.chan)) := fun f => by
    simp [MapEntry.collides, and_assoc]
  constructor
  · rintro ⟨hvalid, j, hj, hsecond, hsame⟩
    refine ⟨b.channelMap[j], .inr (List.mem_iff_getElem.mpr ⟨j.val, ?_, ?_⟩), (hcollides _).mpr ⟨hvalid, hsecond, hsame⟩⟩
    · rw [List.length_take]
      omega
    · simp
  · rintro ⟨f, hf, hc⟩
    obtain ⟨j, hj, rfl⟩ := List.mem_iff_getElem.mp (hf.resolve_left (by simp))
    rw [List.length_take] at hj
    obtain ⟨hvalid, hsecond, hsame⟩ := (hcollides _).mp hc
    simp only [List.getElem_take, Vector.getElem_toList] at hsecond hsame
    exact ⟨hvalid, ⟨j, by omega⟩, by rw [Fin.lt_def]; show j < i.val; omega, hsecond, hsame⟩

theorem mapFailure_spec (b : Bank) :
    (∀ i : Fin 64, b.Clash i → (∀ j : Fin 64, j < i → ¬ b.Clash j) → mapFailure 0 [] b.channelMap.toList = some i.val) ∧
      ((∀ i : Fin 64, ¬ b.Clash i) → mapFailure 0 [] b.channelMap.toList = none) := by
  have hlength : b.channelMap.toList.length = 64 := b.channelMap.length_toList
  have hat : ∀ (j : Nat) (hj : j < b.channelMap.toList.length), b.Clash ⟨j, by omega⟩ ↔
      ∃ f, (f ∈ [] ∨ f ∈ b.channelMap.toList.take j) ∧ (b.channelMap.toList[j]).collides f = true := fun j hj => by
    rw [clash_iff]
    simp
  refine ⟨fun i hi hbefore => ?_, fun hnone => mapFailure_eq_none 0 (fun j hj => (not_congr (hat j hj)).mp (hnone _))⟩
  refine (mapFailure_eq_some (k := i.val) 0 (by omega) ((hat i.val (by omega)).mp hi) (fun j hj => ?_)).trans
    (congrArg some (Nat.zero_add _))
  exact (not_congr (hat j (by omega))).mp (hbefore ⟨j, by omega⟩ hj)

/-! ## The channels of a bank without clashes (R45, R86) -/

/-- A valid entry carries the channel of the group with the kind. -/
def Carries (b : Bank) (g : Group) (c : Chan) (k : ChanKind) : Prop :=
  ∃ i : Fin 64, b.channelMap[i].valid = true ∧ b.channelMap[i].group = g ∧ b.channelMap[i].chan = c ∧
    b.channelMap[i].kind = k

theorem kindOf_eq_some_iff (hmap : ∀ i : Fin 64, ¬ b.Clash i) (g : Group) (c : Chan) (k : ChanKind) :
    b.kindOf g c = some k ↔ b.Carries g c k := by
  have hentry : ∀ e : MapEntry, (e.valid && e.group == g && e.chan == c) = true ↔
      e.valid = true ∧ e.group = g ∧ e.chan = c := fun e => by simp [and_assoc]
  have hlength : b.channelMap.toList.length = 64 := b.channelMap.length_toList
  have hsame : ∀ i j : Fin 64, i < j → b.channelMap[i].valid = true → b.channelMap[j].valid = true →
      b.channelMap[j].group = b.channelMap[i].group → b.channelMap[j].chan = b.channelMap[i].chan → False :=
    fun i j hij hi hj hgroup hchan => hmap j ⟨hj, i, hij, hi, .inr ⟨hgroup, hchan⟩⟩
  rw [kindOf, Option.map_eq_some_iff]
  constructor
  · rintro ⟨e, he, rfl⟩
    obtain ⟨i, hi, rfl⟩ := List.mem_iff_getElem.mp (List.mem_of_find?_eq_some he)
    obtain ⟨hvalid, hgroup, hchan⟩ := (hentry _).mp
      (List.find?_some (p := fun e : MapEntry => e.valid && e.group == g && e.chan == c) he)
    rw [Vector.getElem_toList] at hvalid hgroup hchan
    exact ⟨⟨i, by omega⟩, hvalid, hgroup, hchan, by rw [Vector.getElem_toList]; rfl⟩
  · rintro ⟨i, hvalid, hgroup, hchan, rfl⟩
    refine ⟨b.channelMap[i], ?_, rfl⟩
    refine List.find?_eq_some_iff_getElem.mpr ⟨(hentry _).mpr ⟨hvalid, hgroup, hchan⟩, i.val, by omega, by simp,
      fun j hj => ?_⟩
    have hji : (⟨j, by omega⟩ : Fin 64) < i := hj
    rw [Bool.not_eq_true', ← Bool.not_eq_true, hentry, Vector.getElem_toList]
    rintro ⟨hvalid', hgroup', hchan'⟩
    exact hsame _ i hji hvalid' hvalid (hgroup.trans hgroup'.symm) (hchan.trans hchan'.symm)

theorem hasKinds_iff (hmap : ∀ i : Fin 64, ¬ b.Clash i) (g : Group) (ks : List ChanKind) :
    b.hasKinds g ks = true ↔ ∀ k ∈ ks, ∃ c : Chan, b.Carries g c k := by
  rw [hasKinds, List.all_eq_true]
  refine forall_congr' (fun k => imp_congr_right (fun _ => ?_))
  rw [Bool.not_eq_true', List.isEmpty_eq_false_iff_exists_mem]
  refine exists_congr (fun c => ?_)
  rw [channelsOfKind, List.mem_filter, beq_iff_eq, kindOf_eq_some_iff hmap]
  refine and_iff_right_of_imp (fun h => ?_)
  obtain ⟨i, hvalid, hgroup, hchan, -⟩ := h
  exact (b.mem_channels g c).mpr ⟨b.channelMap[i], by simp, hvalid, hgroup, hchan⟩

/-- A measure suits the kind of the mapped channel it refers to (R86). -/
def Suits (b : Bank) (g : Group) (r : MeasureRef) : Prop := ∃ k : ChanKind, b.Carries g r.chan k ∧
  let has := fun (g : Group) (k : ChanKind) => ∃ c : Chan, b.Carries g c k
  let onA := k = .acA1 ∨ k = .acA2 ∨ k = .acA3
  let onB := k = .acB1 ∨ k = .acB2 ∨ k = .acB3
  let wholeA := has g .acA1 ∧ has g .acA2 ∧ has g .acA3
  let wholeB := has g .acB1 ∧ has g .acB2 ∧ has g .acB3
  match r.metric with
  | .mean | .rms | .peakToPeak => True
  | .amplitude => r.order ∈ b.plans[g].orders
  | .rippleRatio => k = .dcVoltage
  | .thd => (onA ∨ onB) ∧ 1 ∈ b.plans[g].orders
  | .phaseImbalance => (onA ∧ wholeA) ∨ (onB ∧ wholeB)
  | .bridgeBalance => (onA ∨ onB) ∧ wholeA ∧ wholeB

theorem acCurrent_iff (k : ChanKind) : k.acCurrent = true ↔
    (k = .acA1 ∨ k = .acA2 ∨ k = .acA3) ∨ (k = .acB1 ∨ k = .acB2 ∨ k = .acB3) := by
  cases k <;> decide

/-- Every phase of the bridge that an AC current kind belongs to is mapped (R85, R86). -/
theorem hasBridge_iff (b : Bank) (g : Group) (k : ChanKind) : (k.acCurrent && b.hasKinds g k.bridge) = true ↔
    ((k = .acA1 ∨ k = .acA2 ∨ k = .acA3) ∧ b.hasKinds g bridgeA = true) ∨
      ((k = .acB1 ∨ k = .acB2 ∨ k = .acB3) ∧ b.hasKinds g bridgeB = true) := by
  cases k <;> simp [ChanKind.acCurrent, ChanKind.bridge, bridgeA]

theorem suits_iff (hmap : ∀ i : Fin 64, ¬ b.Clash i) (g : Group) (r : MeasureRef) : b.suits g r = true ↔ b.Suits g r := by
  have hwhole : ∀ x y z : ChanKind, b.hasKinds g [x, y, z] = true ↔
      (∃ c : Chan, b.Carries g c x) ∧ (∃ c : Chan, b.Carries g c y) ∧ ∃ c : Chan, b.Carries g c z := fun x y z => by
    rw [hasKinds_iff hmap]
    simp
  have hboth : b.hasKinds g (bridgeA ++ bridgeB) = true ↔ b.hasKinds g bridgeA = true ∧ b.hasKinds g bridgeB = true := by
    rw [hasKinds, List.all_append, Bool.and_eq_true]
    rfl
  have hA := hwhole .acA1 .acA2 .acA3
  have hB := hwhole .acB1 .acB2 .acB3
  rw [Suits, suits]
  simp only [← kindOf_eq_some_iff hmap g r.chan]
  cases b.kindOf g r.chan with
  | none => simp
  | some k =>
    simp only [Option.some.injEq, exists_eq_left']
    cases r.metric with
    | mean => exact ⟨fun _ => trivial, fun _ => rfl⟩
    | rms => exact ⟨fun _ => trivial, fun _ => rfl⟩
    | peakToPeak => exact ⟨fun _ => trivial, fun _ => rfl⟩
    | amplitude => exact List.contains_iff_mem
    | rippleRatio => exact beq_iff_eq
    | thd => exact Bool.and_eq_true_iff.trans (and_congr (acCurrent_iff k) List.contains_iff_mem)
    | phaseImbalance =>
      exact (hasBridge_iff b g k).trans (or_congr (and_congr_right' hA) (and_congr_right' hB))
    | bridgeBalance =>
      exact Bool.and_eq_true_iff.trans (and_congr (acCurrent_iff k) (hboth.trans (and_congr hA hB)))

/-! ## The first failure (R175) -/

theorem strictlyAscending_iff : ∀ l : List Nat, strictlyAscending l = true ↔ l.Pairwise (· < ·)
  | [] => by simp [strictlyAscending]
  | [a] => by simp [strictlyAscending]
  | a :: x :: rest => by
    rw [strictlyAscending, Bool.and_eq_true, decide_eq_true_eq, strictlyAscending_iff (x :: rest), List.pairwise_cons (a := a)]
    refine and_congr_left (fun hrest => ⟨fun hax y hy => ?_, fun h => h x (List.mem_cons_self ..)⟩)
    obtain rfl | hy := List.mem_cons.mp hy
    · exact hax
    · exact hax.trans ((List.pairwise_cons.mp hrest).1 y hy)

/-- An enabled plan that does not agree with its bank (R54, R87). -/
def BadPlan (b : Bank) (g : Group) : Prop := b.plans[g].enabled = true ∧
  ¬ (b.Carries g b.plans[g].refChan .acVoltageRef ∧ b.Carries g b.plans[g].condChan .dcCurrent ∧
    b.plans[g].orders.Pairwise (· < ·) ∧ (∀ h ∈ b.plans[g].orders, 1 ≤ h ∧ h ≤ 48) ∧
    ∀ r ∈ b.plans[g].measures, b.Suits g r)

theorem badPlan_iff (hmap : ∀ i : Fin 64, ¬ b.Clash i) (g : Group) :
    b.BadPlan g ↔ (b.plans[g].enabled && !b.planOk g) = true := by
  rw [Bool.and_eq_true, Bool.not_eq_true', ← Bool.not_eq_true, planOk]
  simp only [Bool.and_eq_true, beq_iff_eq, kindOf_eq_some_iff hmap, strictlyAscending_iff, List.all_eq_true,
    decide_eq_true_eq, suits_iff hmap, and_assoc]
  rfl

theorem planFailure_spec {bad : Group → Prop} (hbad : ∀ g : Group, bad g ↔ (b.plans[g].enabled && !b.planOk g) = true) :
    (∀ g : Group, bad g → (∀ h : Group, h < g → ¬ bad h) → b.planFailure = some g.val) ∧
      ((∀ g : Group, ¬ bad g) → b.planFailure = none) := by
  have hfin : ∀ i : Fin 8, all8[i.val]'i.isLt = i := by decide
  have hat : ∀ (i : Nat) (hi : i < all8.length), all8[i] = ⟨i, hi⟩ := fun i hi => hfin ⟨i, hi⟩
  refine ⟨fun g hg hbefore => ?_, fun hnone => ?_⟩
  · refine Option.map_eq_some_iff.mpr ⟨g, List.find?_eq_some_iff_getElem.mpr ⟨(hbad g).mp hg, g.val, g.isLt, hat _ _,
      fun j hj => ?_⟩, rfl⟩
    rw [hat, Bool.not_eq_true', ← Bool.not_eq_true]
    exact (not_congr (hbad _)).mp (hbefore _ hj)
  · exact Option.map_eq_none_iff.mpr (List.find?_eq_none.mpr (fun g _ => (not_congr (hbad g)).mp (hnone g)))

/-- The first failure of a bank, from those of its tables in their order (R175). -/
theorem failure_spec {clash : Fin 64 → Prop} {badPlan : Group → Prop} {badLimit : Fin 96 → Prop} {badSignature : Fin 32 → Prop}
    {badSettings : Prop} (hclash : ∀ i, clash i ↔ b.Clash i)
    (hplan : (∀ i, ¬ clash i) → ∀ g : Group, badPlan g ↔ (b.plans[g].enabled && !b.planOk g) = true)
    (hlimit : (∀ i, ¬ clash i) → ∀ i : Fin 96, badLimit i ↔ (b.limits[i].valid && !b.suits b.limits[i].group b.limits[i].ref) = true)
    (hsignature : ∀ i : Fin 32, badSignature i ↔ (b.signatures[i].valid && b.signatures[i].care == 0) = true)
    (hsettings : badSettings ↔ b.settings.commitOk = false) :
    (∀ i, clash i → (∀ j, j < i → ¬ clash j) → b.failure = some (.channelMap, i.val)) ∧
    ((∀ i, ¬ clash i) →
      (∀ g, badPlan g → (∀ h, h < g → ¬ badPlan h) → b.failure = some (.groupPlan, g.val)) ∧
      ((∀ g, ¬ badPlan g) →
        (∀ i, badLimit i → (∀ j, j < i → ¬ badLimit j) → b.failure = some (.limit, i.val)) ∧
        ((∀ i, ¬ badLimit i) →
          (∀ i, badSignature i → (∀ j, j < i → ¬ badSignature j) → b.failure = some (.signature, i.val)) ∧
          ((∀ i, ¬ badSignature i) →
            (badSettings → b.failure = some (.partSettings, 0)) ∧ (¬ badSettings → b.failure = none))))) := by
  obtain rfl : clash = b.Clash := funext (fun i => propext (hclash i))
  obtain ⟨hmapSome, hmapNone⟩ := b.mapFailure_spec
  refine ⟨fun i hi hbefore => ?_, fun hmap => ?_⟩
  · rw [failure, hmapSome i hi hbefore]
  obtain ⟨hplanSome, hplanNone⟩ := planFailure_spec (hplan hmap)
  refine ⟨fun g hg hbefore => ?_, fun hplans => ?_⟩
  · rw [failure, hmapNone hmap, hplanSome g hg hbefore]
  obtain ⟨hlimitSome, hlimitNone⟩ := firstIndex_toList (v := b.limits) (p := fun e => e.valid && !b.suits e.group e.ref)
    (hlimit hmap)
  refine ⟨fun i hi hbefore => ?_, fun hlimits => ?_⟩
  · rw [failure, hmapNone hmap, hplanNone hplans, limitFailure, hlimitSome i hi hbefore]
  obtain ⟨hsignatureSome, hsignatureNone⟩ := firstIndex_toList (v := b.signatures) (p := fun e => e.valid && e.care == 0)
    hsignature
  refine ⟨fun i hi hbefore => ?_, fun hsignatures => ?_⟩
  · rw [failure, hmapNone hmap, hplanNone hplans, limitFailure, hlimitNone hlimits, signatureFailure,
      hsignatureSome i hi hbefore]
  have hlast : b.failure = if b.settings.commitOk then none else some (.partSettings, 0) := by
    rw [failure, hmapNone hmap, hplanNone hplans, limitFailure, hlimitNone hlimits, signatureFailure,
      hsignatureNone hsignatures]
  rw [hlast, hsettings]
  exact ⟨fun h => by rw [h]; rfl, fun h => by rw [Bool.eq_true_of_not_eq_false h]; rfl⟩

theorem commitOk_iff (x : Settings) : x.commitOk = true ↔ (17 ≤ x.partAddr.toNat ∧ x.partAddr.toNat ≤ 62) ∧
    x.reportDest.toNat ≤ 62 ∧ x.eventDest.toNat ≤ 62 ∧ (2 ≤ x.staleMs ∧ x.staleMs ≤ 100) ∧
      (50 ≤ x.commitMs ∧ x.commitMs ≤ 2000) := by
  simp only [Settings.commitOk, Bool.and_eq_true, decide_eq_true_eq, and_assoc]

end Bank

end Sys2Proof.Machine
end

section
/-! COMMIT accepted, and how an event ends while a commit is pending (R69, R176 to R178). -/

namespace Sys2Proof.Machine

/-! ## Markers offered one after the other -/

/-- A queue after some markers of the kinds given have been offered to it (R156). -/
inductive ReportQueue.Offered (kinds : Marker → Prop) (p : ReportQueue) : ReportQueue → Prop
  | refl : Offered kinds p p
  | offer {q : ReportQueue} {dest : Addr} {m : Marker} : Offered kinds p q → kinds m → Offered kinds p (q.offerMarker dest m)

namespace ReportQueue.Offered

variable {kinds more : Marker → Prop} {p q r : ReportQueue}

theorem trans (h : Offered kinds p q) (k : Offered kinds q r) : Offered kinds p r := by
  induction k with
  | refl => exact h
  | offer _ hm ih => exact ih.offer hm

theorem mono (h : Offered kinds p q) (hk : ∀ m, kinds m → more m) : Offered more p q := by
  induction h with
  | refl => exact .refl
  | offer _ hm ih => exact ih.offer (hk _ hm)

theorem behind (h : Offered kinds p q) : q.Behind p := by
  induction h with
  | refl => exact .refl p
  | offer _ _ ih => exact ReportQueue.Behind.trans (ReportQueue.offerMarker_records _ _ _) ih

theorem full (h : Offered kinds p q) (hfull : 64 ≤ p.records.length) : q.records = p.records := by
  induction h with
  | refl => rfl
  | offer _ _ ih =>
    rw [offerMarker_full (by rw [ih]; exact hfull)]
    exact ih

/-- A waiting reply keeps its place (R156). -/
theorem reply_mem {d : Addr} {x : Reply} (h : Offered kinds p q) (hx : .reply d x ∈ p.waiting) : .reply d x ∈ q.waiting := by
  induction h with
  | refl => exact hx
  | @offer q dest m _ _ ih =>
    by_cases hroom : q.records.length < 64
    · rw [offerMarker_room hroom]
      exact ih
    · rw [offerMarker_full (Nat.not_lt.mp hroom)]
      show _ ∈ (mergeWaiting m q.waiting).getD _
      cases hmerge : mergeWaiting m q.waiting with
      | none => exact List.mem_append_left _ ih
      | some l =>
        obtain ⟨before, after, w, -, hwaiting, rfl⟩ := exists_of_mergeWaiting hmerge
        rw [hwaiting] at ih
        simpa using ih

theorem added {x : Marker} {o : ReportQueue} (h : Offered kinds p q) (hx : p.Added o x) (hk : ∀ m, kinds m → x.sameKind m = false) :
    q.Added o x := by
  induction h with
  | refl => exact hx
  | offer _ hm ih => exact ih.offerMarker _ (hk _ hm)

end ReportQueue.Offered

namespace State

variable {s t u : State} {c : Commit}

/-- The kinds of marker an event may close with (R177, R183). -/
def closing : Marker → Prop
  | .holdEffective => True
  | .commitDone _ _ => True
  | _ => False

theorem judgeHold_offered (s : State) : s.rep.Offered closing s.judgeHold.rep := by
  obtain h | h := s.judgeHold_rep
  · rw [h]
    exact .refl
  · rw [h]
    exact .offer .refl trivial

/-! ## What a completion keeps (R177) -/

/-- What a completion keeps of what the Window Engine, the checks, the reports and the requests have; `t` is the state
after, `s` the one before. -/
structure CommitKept (t s : State) : Prop where
  gens : ∀ g : Group, (t.group g).gen = (s.group g).gen
  checks : ∀ g : Group, t.vector g = s.vector g ∧ t.latch g = s.latch g
  verdicts : t.ana.lastVerdicts = s.ana.lastVerdicts
  snap : t.snap = s.snap
  offered : s.rep.Offered closing t.rep
  mgmt : t.mgmt.staging = s.mgmt.staging ∧ t.mgmt.request = s.mgmt.request ∧ t.mgmt.restartMark = s.mgmt.restartMark
  markReset : t.links.markReset = s.links.markReset
  raised : ∀ k : EventKind, KindSet.has s.disp.pending k = true → KindSet.has t.disp.pending k = true

theorem CommitKept.trans (h : u.CommitKept t) (k : t.CommitKept s) : u.CommitKept s where
  gens g := (h.gens g).trans (k.gens g)
  checks g := ⟨(h.checks g).1.trans (k.checks g).1, (h.checks g).2.trans (k.checks g).2⟩
  verdicts := h.verdicts.trans k.verdicts
  snap := h.snap.trans k.snap
  offered := k.offered.trans h.offered
  mgmt := ⟨h.mgmt.1.trans k.mgmt.1, h.mgmt.2.1.trans k.mgmt.2.1, h.mgmt.2.2.trans k.mgmt.2.2⟩
  markReset := h.markReset.trans k.markReset
  raised x hx := h.raised x (k.raised x hx)

theorem commitKept_judgeHold (s : State) : s.judgeHold.CommitKept s := by
  have hrest := s.judgeHold_frame
  obtain ⟨hana, hchk, hlatches, hsnap, -, -, hlinks, hmgmt⟩ := s.judgeHold_fields
  exact ⟨fun g => congrArg (fun a : Analysis => (a.groups[g]).gen) hana, fun g => ⟨congrArg (fun x : CheckUnit => x.vectors[g]) hchk,
    congrArg (fun x : Vector (Option Diagnosis) 8 => x[g]) hlatches⟩, congrArg Analysis.lastVerdicts hana, hsnap,
    s.judgeHold_offered, ⟨(congrArg Management.staging hmgmt :), (congrArg Management.request hmgmt :),
    (congrArg Management.restartMark hmgmt :)⟩, congrArg Links.markReset hlinks,
    fun k hk => (congrArg (fun x : State => KindSet.has x.disp.pending k) hrest :).trans hk⟩

theorem commitKept_complete (h : s.mgmt.commit = some c) : s.complete.CommitKept s := by
  obtain ⟨hrest, hlinks, -, -, hraised, -, -⟩ := applySettings_applied (s := s.adopted c) s.settings rfl
  have hgens := applySettings_gens (s := s.adopted c) s.settings rfl
  have hverdicts := applySettings_lastVerdicts (s := s.adopted c) s.settings rfl
  rw [complete_eq h]
  refine ⟨hgens, fun g => ⟨(congrArg (fun x : State => x.vector g) hrest :), (congrArg (fun x : State => x.latch g) hrest :)⟩,
    hverdicts, (congrArg State.snap hrest :), ?_, ⟨(congrArg (fun x : State => x.mgmt.staging) hrest :),
    (congrArg (fun x : State => x.mgmt.request) hrest :), (congrArg (fun x : State => x.mgmt.restartMark) hrest :)⟩,
    (congrArg Links.markReset hlinks :), hraised⟩
  have hrep : ((s.adopted c).applySettings s.settings).rep =
      s.rep.offerMarker s.mgmt.staging.settings.reportDest (.commitDone c.stagingGen c.forced) := (congrArg State.rep hrest :)
  rw [hrep]
  exact .offer .refl trivial

/-! ## The end of an event while a commit is pending -/

/-- A completion seen from an earlier state with the same banks, ports, buffers and sources. -/
theorem CompletedFrom.congr {gen : Gen} {forced : Nat} (h : t.CompletedFrom s gen forced)
    (hsettings : s.settings = u.settings) (hstaging : s.mgmt.staging = u.mgmt.staging) (hlinks : s.links = u.links)
    (hfwd : s.fwd = u.fwd) (hsources : s.sources = u.sources) : t.CompletedFrom u gen forced := by
  have haddr : s.partAddr = u.partAddr := congrArg Settings.partAddr hsettings
  obtain ⟨control, portS, links, presence, buffers, sources, lost, down, done⟩ := h
  rw [hstaging] at control done
  rw [hsettings, hstaging, hlinks] at portS down
  rw [hlinks] at links
  rw [hlinks, haddr, hstaging] at presence
  rw [hfwd, hsettings, hstaging] at buffers
  rw [hsources, hsettings, hstaging, hlinks] at sources
  rw [hsources] at lost
  exact ⟨control, portS, links, presence, buffers, sources, lost, down, done⟩

theorem CompletedFrom.judgeHold {gen : Gen} {forced : Nat} (h : t.CompletedFrom s gen forced) :
    t.judgeHold.CompletedFrom s gen forced := by
  have hrest := t.judgeHold_frame
  have hoffered := t.judgeHold_rep
  obtain ⟨-, hchk, -, -, hsources, hfwd, hlinks, hmgmt⟩ := t.judgeHold_fields
  have hdisp : t.judgeHold.disp = t.disp := (congrArg State.disp hrest :)
  obtain ⟨control, portS, links, presence, buffers, sources, lost, down, done⟩ := h
  generalize t.judgeHold = v at *
  refine ⟨⟨by rw [hmgmt]; exact control.1, by rw [hmgmt]; exact control.2.1, by rw [hchk]; exact control.2.2⟩,
    by rw [hlinks]; exact portS, by rw [hlinks]; exact links, by rw [hlinks]; exact presence, by rw [hfwd]; exact buffers,
    by rw [hsources]; exact sources, by rw [hsources, hdisp]; exact lost, by rw [hdisp]; exact down, ?_⟩
  obtain hrep | hrep := hoffered
  · rw [hrep]
    exact done
  · rw [hrep]
    refine done.imp (fun hrecord => ?_) (fun ⟨k, hk, hwaits⟩ => ⟨k, hk, ReportQueue.mem_waiting_offerMarker hwaits _ rfl⟩)
    obtain ⟨rest, hrest⟩ := t.rep.offerMarker_records t.settings.reportDest .holdEffective
    rw [hrest]
    exact List.mem_append_left _ hrecord

/-- An event that closes with a commit pending and no reset coming. -/
theorem finish_of_pending (hmark : s.links.markReset = none) (hrestart : s.mgmt.restartMark = false) :
    s.finish = if s.commitReady then s.judgeHold.complete.judgeHold else s.judgeHold := by
  have hsame := SameWithin.judgeHold s
  have hready : s.judgeHold.commitReady = s.commitReady := hsame.toSameAnalysis.commitReady
  have hunreset : ∀ x : State, x.links.markReset = none → x.mgmt.restartMark = false → x.resetIfCutOff = x := fun x h1 h2 => by
    rw [resetIfCutOff, h1, h2]
    rfl
  have hheld := s.commitKept_judgeHold
  unfold finish
  dsimp only
  rw [hready]
  cases hr : s.commitReady with
  | false => exact hunreset _ (hheld.markReset.trans hmark) (hheld.mgmt.2.2.trans hrestart)
  | true =>
    obtain ⟨c, hc⟩ : ∃ c, s.judgeHold.mgmt.commit = some c := by
      rw [← hready] at hr
      unfold commitReady at hr
      split at hr
      next c hc => exact ⟨c, hc⟩
      next => exact absurd hr Bool.false_ne_true
    have hkept := ((commitKept_judgeHold _).trans (commitKept_complete hc)).trans hheld
    exact hunreset _ (hkept.markReset.trans hmark) (hkept.mgmt.2.2.trans hrestart)

/-- How an event ends while a commit is pending; `t` is the state after, `s` the one before. -/
structure CommitJudged (t s : State) (c : Commit) : Prop where
  kept : t.CommitKept s
  pending : s.commitReady = false → t = s.judgeHold
  ready : s.commitReady = true → t.mgmt.commit = none ∧ t.CompletedFrom s c.stagingGen c.forced

theorem finish_commitJudged (h : s.mgmt.commit = some c) (hforced : c.forced ≤ 255) (hmark : s.links.markReset = none)
    (hrestart : s.mgmt.restartMark = false) : s.finish.CommitJudged s c := by
  obtain ⟨-, -, -, -, hsources, hfwd, hlinks, hmgmt⟩ := s.judgeHold_fields
  have hcommit : s.judgeHold.mgmt.commit = some c := by rw [hmgmt]; exact h
  have hkept := ((commitKept_judgeHold _).trans (commitKept_complete hcommit)).trans s.commitKept_judgeHold
  rw [finish_of_pending hmark hrestart]
  cases hr : s.commitReady with
  | false =>
    rw [if_neg Bool.false_ne_true]
    exact ⟨s.commitKept_judgeHold, fun _ => rfl, fun e => absurd (hr.symm.trans e) Bool.false_ne_true⟩
  | true =>
    rw [if_pos rfl]
    refine ⟨hkept, fun e => absurd (e.symm.trans hr) Bool.false_ne_true, fun _ => ⟨?_, ?_⟩⟩
    · obtain ⟨-, -, -, -, -, -, -, hdone⟩ := s.judgeHold.complete.judgeHold_fields
      rw [hdone]
      exact s.judgeHold.complete_idle
    · exact ((complete_completed hcommit hforced).judgeHold).congr
        (congrArg (fun m : Management => m.active.settings) hmgmt :) (congrArg Management.staging hmgmt :) hlinks hfwd hsources

/-- The switches of some groups offer their capture's marker at most (R201). -/
theorem SwitchedTo.offered {groups : Group → Prop} {into : Group → GroupState} (h : t.SwitchedTo s c groups into) :
    s.rep.Offered (fun m => m = .snapshot false) t.rep := by
  by_cases hc : ∃ a : Arming, s.snap.state = .armed a ∧ groups a.group
  · rw [(h.aborted hc).2]
    exact .offer .refl rfl
  · rw [(h.unaborted hc).2]
    exact .refl

/-- The switches of some groups and the end of the event end an armed capture of one of them (R201). -/
theorem SwitchedTo.captureEnded {groups : Group → Prop} {into : Group → GroupState} {kinds : Marker → Prop}
    (h : t.SwitchedTo s c groups into) (hoffered : t.rep.Offered kinds u.rep)
    (hkinds : ∀ m, kinds m → (Marker.snapshot false).sameKind m = false) (hsnap : u.snap = t.snap) : u.CaptureEnded s groups where
  aborted a ha hg := by
    obtain ⟨hreset, hrep⟩ := h.aborted ⟨a, ha, hg⟩
    have hadded : t.rep.Added s.rep (.snapshot false) := by
      rw [hrep]
      exact s.rep.added_offerMarker _ (fun w => by cases w <;> rfl)
    exact ⟨hsnap.trans hreset, (hoffered.added hadded hkinds).shows⟩
  kept hn := hsnap.trans (h.unaborted (fun ⟨a, ha, hg⟩ => hn a ha hg)).1

theorem snapshot_sameKind_closing (m : Marker) (h : closing m) : (Marker.snapshot false).sameKind m = false := by
  cases m with
  | snapshot _ => exact h.elim
  | holdEffective => rfl
  | holdEnded _ _ => rfl
  | commitDone _ _ => rfl
  | groupQuiesced _ => rfl

/-! ## The acceptance of a COMMIT (R71, R178) -/

/-- A group that a COMMIT leaves to a later switch (R71). -/
def stays (st : GroupState) : Prop := st = .tracking ∨ st = .quiescing

/-- The state a group takes at the acceptance of a COMMIT (R71). -/
def acceptedInto (st : GroupState) (p : Plan) : GroupState :=
  if st = .quiesced then .quiesced else if p.enabled then .seeking else .off

theorem acceptSwitch_switchedTo (h : s.mgmt.commit = some c) (g : Group) : (s.acceptSwitch g).SwitchedTo s c
    (fun k => k = g ∧ ¬ stays (s.group k).state) (fun k => acceptedInto (s.group k).state s.mgmt.staging.plans[k]) := by
  have hswitches : ¬ stays (s.group g).state → ∀ k, k = g ↔ k = g ∧ ¬ stays (s.group k).state := fun hn k =>
    ⟨fun e => ⟨e, e ▸ hn⟩, And.left⟩
  have hstays : stays (s.group g).state → ∀ k, False ↔ k = g ∧ ¬ stays (s.group k).state := fun hg k =>
    ⟨False.elim, fun ⟨e, hn⟩ => hn (e ▸ hg)⟩
  unfold acceptSwitch
  cases hstate : (s.group g).state
  case off | seeking | blind =>
    refine (switchSeekOrOff_switchedTo h g (into := fun k => acceptedInto (s.group k).state s.mgmt.staging.plans[k]) ?_).congr
      (hswitches (by simp [hstate, stays])) (fun _ _ => rfl)
    simp [hstate, acceptedInto]
  case quiesced =>
    refine (switchGroup_switchedTo h g (into := fun k => acceptedInto (s.group k).state s.mgmt.staging.plans[k]) ?_).congr
      (hswitches (by simp [hstate, stays])) (fun _ _ => rfl)
    simp [hstate, acceptedInto]
  case tracking | quiescing =>
    exact (SwitchedTo.none (into := fun k => acceptedInto (s.group k).state s.mgmt.staging.plans[k]) h).congr
      (hstays (by simp [hstate, stays])) (fun _ _ => rfl)

/-- The commit that a COMMIT starts (R178). -/
def startedCommit (s : State) : Commit := ⟨s.mgmt.activeGen + 1, 0, some 0, s.settings.commitMs, 0⟩

theorem acceptCommit_switchedTo (s : State) : s.acceptCommit.SwitchedTo s.startCommit s.startedCommit
    (fun k => ¬ stays (s.group k).state) (fun k => acceptedInto (s.group k).state s.mgmt.staging.plans[k]) := by
  rw [acceptCommit_eq]
  exact (foldl_switchedTo (q := fun st _ => ¬ stays st) (a := acceptedInto) (fun h g => acceptSwitch_switchedTo h g) all8
    (s := s.startCommit) (by decide) rfl).congr (fun k => and_iff_right (mem_all8 k)) (fun _ _ => rfl)

end State

end Sys2Proof.Machine
end

section
/-! COMMIT (R71, R104, R175, R178). -/

namespace Sys2Proof.Machine

namespace State

variable {s t : State} {c : Commit}

theorem commitReady_eq_false (h : s.mgmt.commit = some c) {g : Group} (hg : GroupSet.has c.switched g = false) :
    s.commitReady = false := by
  have hne : (c.switched == 0xFF#8) = false := beq_false_of_ne (fun e => by rw [e, GroupSet.has_all] at hg; cases hg)
  rw [commitReady, h]
  exact congrArg (· && !s.tagLive s.mgmt.activeGen) hne

/-- What the acceptance of a COMMIT leaves at the end of its event; `s` is the state in which its groups switch. -/
structure CommitAccepted (t s : State) : Prop where
  offered : s.rep.Offered (fun _ => True) t.rep
  mgmt : t.mgmt.request = s.mgmt.request ∧ t.mgmt.staging = s.mgmt.staging
  switched : ∀ g : Group, ¬ stays (s.group g).state → (t.group g).gen = s.mgmt.activeGen + 1 ∧ t.vector g = 0 ∧
    t.latch g = none ∧ t.ana.lastVerdicts[g] = none
  stayed : ∀ g : Group, stays (s.group g).state → t.group g = s.group g ∧ t.vector g = s.vector g ∧ t.latch g = s.latch g ∧
    t.mgmt.commit ≠ none
  capture : t.CaptureEnded s (fun g => ¬ stays (s.group g).state)
  done : t.mgmt.commit = none → t.CompletedFrom s (s.mgmt.activeGen + 1) 0
  pending : ∀ c : Commit, t.mgmt.commit = some c →
    c.stagingGen = s.mgmt.activeGen + 1 ∧ c.timer = some 0 ∧ c.timeoutMs = s.settings.commitMs ∧ c.forced = 0 ∧
    (∀ g : Group, GroupSet.has c.switched g = true ↔ ¬ stays (s.group g).state) ∧
    (∀ g : Group, ¬ stays (s.group g).state → (t.group g).state = acceptedInto (s.group g).state s.mgmt.staging.plans[g]) ∧
    t.mgmt.activeGen = s.mgmt.activeGen ∧ t.mgmt.active = s.mgmt.active ∧
    t.links = s.links ∧ t.sources = s.sources ∧ t.fwd = s.fwd ∧ t.disp = s.disp

theorem acceptCommit_accepted (hmark : s.links.markReset = none) (hrestart : s.mgmt.restartMark = false) :
    s.acceptCommit.finish.CommitAccepted s := by
  have hswitched := s.acceptCommit_switchedTo
  generalize s.acceptCommit = v at *
  obtain ⟨x, hmgmt, hx⟩ := hswitched.commit
  have hcommit : v.mgmt.commit = some { s.startedCommit with switched := x } := congrArg Management.commit hmgmt
  have hflag : ∀ g : Group, GroupSet.has x g = true ↔ ¬ stays (s.group g).state := fun g =>
    (hx g).trans (or_iff_right (by rw [show GroupSet.has s.startedCommit.switched g = false by
      show GroupSet.has 0 g = false; revert g; decide]; exact Bool.false_ne_true))
  have hlinks : v.links = s.links := links_of_outside hswitched.outside
  have hjudged := finish_commitJudged hcommit (Nat.zero_le _) (hlinks ▸ hmark)
    ((restartMark_of_outside hswitched.outside).trans hrestart)
  have hkept := hjudged.kept
  have hunready : ∀ g : Group, stays (s.group g).state → v.finish = v.judgeHold := fun g hg =>
    hjudged.pending (commitReady_eq_false hcommit
      (Bool.eq_false_of_not_eq_true (fun h => (hflag g).mp h hg)))
  obtain ⟨hana, -, -, -, hsources, hfwd, jlinks, jmgmt⟩ := v.judgeHold_fields
  refine ⟨?_, ⟨hkept.mgmt.2.1.trans (congrArg Management.request hmgmt :),
    hkept.mgmt.1.trans (congrArg Management.staging hmgmt :)⟩, fun g hg => ?_, fun g hg => ?_, ?_, fun hidle => ?_, fun c hc => ?_⟩
  · exact (hswitched.offered.mono (fun _ _ => trivial)).trans (hkept.offered.mono (fun _ _ => trivial))
  · obtain ⟨hgen, -, hvector, hlatch, hverdict⟩ := hswitched.switched g hg
    exact ⟨(hkept.gens g).trans hgen, (hkept.checks g).1.trans hvector, (hkept.checks g).2.trans hlatch,
      (congrArg (fun w => w[g]) hkept.verdicts).trans hverdict⟩
  · obtain ⟨hgroup, hvector, hlatch, -⟩ := hswitched.kept g (fun hn => hn hg)
    refine ⟨?_, (hkept.checks g).1.trans hvector, (hkept.checks g).2.trans hlatch, ?_⟩
    · rw [hunready g hg]
      exact (congrArg (fun a : Analysis => a.groups[g]) hana).trans hgroup
    · rw [hunready g hg, jmgmt]
      exact fun hn => Option.some_ne_none _ (hcommit.symm.trans hn)
  · obtain ⟨haborted, hunaborted⟩ := hswitched.captureEnded hkept.offered snapshot_sameKind_closing hkept.snap
    exact ⟨haborted, hunaborted⟩
  · have hready : v.commitReady = true := by
      by_contra hn
      rw [hjudged.pending (Bool.eq_false_of_not_eq_true hn), jmgmt] at hidle
      exact Option.some_ne_none _ (hcommit.symm.trans hidle)
    exact (hjudged.ready hready).2.congr (congrArg (fun m : Management => m.active.settings) hmgmt :)
      (congrArg Management.staging hmgmt :) hlinks (congrArg State.fwd hswitched.outside :)
      (congrArg State.sources hswitched.outside :)
  · have hpending : v.commitReady = false := by
      refine Bool.eq_false_of_not_eq_true (fun hready => ?_)
      rw [(hjudged.ready hready).1] at hc
      cases hc
    have ht := hjudged.pending hpending
    rw [ht, jmgmt] at hc
    obtain rfl : { s.startedCommit with switched := x } = c := Option.some.inj (hcommit.symm.trans hc)
    rw [ht]
    refine ⟨rfl, rfl, rfl, rfl, hflag, fun g hg => ?_, ?_, ?_, jlinks.trans hlinks,
      hsources.trans (congrArg State.sources hswitched.outside :), hfwd.trans (congrArg State.fwd hswitched.outside :), ?_⟩
    · exact (congrArg (fun a : Analysis => (a.groups[g]).state) hana).trans (hswitched.switched g hg).2.1
    · rw [jmgmt, hmgmt]
      rfl
    · rw [jmgmt, hmgmt]
      rfl
    · exact (congrArg State.disp v.judgeHold_frame : _ = v.disp).trans hswitched.disp

/-- The queue when a reply has found it full (R155). -/
theorem answered_full (s : State) (r : Request) (st : Status) (d : List Byte) (hfull : 64 ≤ s.rep.records.length) :
    (s.answered r st d).rep =
      { s.rep with waiting := s.rep.waiting ++ [.reply r.source ⟨r.seq, r.code, st, d⟩] } :=
  if_neg (Nat.not_lt.mpr hfull)

end State

/-- Settles O50: the first failure of the Staging bank, and the acceptance as the switches and the end of the event. -/
theorem commitIsJudgedAndAccepted : Obligations.CommitIsJudgedAndAccepted := by
  refine ⟨fun b => ?_, fun s source seq hs hsource => ?_⟩
  · intro maps clash carries has suits badPlan badLimit badSignature x badSettings
    refine Bank.failure_spec (fun i => Iff.rfl) (fun hmap g => Bank.badPlan_iff hmap g) (fun hmap i => ?_) (fun i => ?_) ?_
    · show (b.limits[i].valid = true ∧ ¬ b.Suits b.limits[i].group b.limits[i].ref) ↔ _
      rw [Bool.and_eq_true, Bool.not_eq_true', ← Bool.not_eq_true, Bank.suits_iff hmap]
    · show (b.signatures[i].valid = true ∧ b.signatures[i].care = 0) ↔ _
      rw [Bool.and_eq_true, beq_iff_eq]
    · rw [← Bool.not_eq_true, Bank.commitOk_iff]
  · intro r heard stays
    have hexec : exec (.commit source seq []) s = .next (doCommit r (s.taken r)) :=
      exec_taken (r := r) rfl hs hsource (Nat.zero_le _) rfl
    rw [hexec]
    refine ⟨fun hbusy => ?_, fun hidle t i hfail => ?_, fun hidle hpass hrestart => ?_⟩
    · have hsome : (s.taken r).mgmt.commit.isSome = true := Option.isSome_iff_ne_none.mpr hbusy
      rw [doCommit, if_pos hsome, s.answer_taken]
    · have hnone : ¬ (s.taken r).mgmt.commit.isSome = true := fun h => Option.isSome_iff_ne_none.mp h hidle
      have hfail' : (s.taken r).mgmt.staging.failure = some (t, i) := hfail
      rw [doCommit, if_neg hnone, hfail']
      exact congrArg Host.Outcome.next (s.answer_taken r _ _)
    · have hnone : ¬ (s.taken r).mgmt.commit.isSome = true := fun h => Option.isSome_iff_ne_none.mp h hidle
      have hpass' : (s.taken r).mgmt.staging.failure = none := hpass
      rw [doCommit, if_neg hnone, hpass']
      have hanswer : (s.taken r).answer r .accepted (be16 ((s.taken r).mgmt.activeGen + 1)) =
          s.answered r .accepted (be16 (s.mgmt.activeGen + 1)) := s.answer_taken r _ _
      show ∃ t : State, Host.Outcome.next
        ((s.taken r).answer r .accepted (be16 ((s.taken r).mgmt.activeGen + 1))).acceptCommit.finish = .next t ∧ _
      rw [hanswer]
      have haccepted := State.acceptCommit_accepted (s := s.answered r .accepted (be16 (s.mgmt.activeGen + 1)))
        (s.links.heardOnC_markReset.trans hs.1.2.1) hrestart
      generalize (s.answered r .accepted (be16 (s.mgmt.activeGen + 1))).acceptCommit.finish = t at haccepted
      refine ⟨t, rfl, fun hroom => ⟨?_, haccepted.offered.behind.of_answered hroom⟩, fun hfull => ⟨?_, ?_, ?_⟩,
        haccepted.mgmt.2, haccepted.switched, haccepted.stayed, ⟨haccepted.capture.aborted, haccepted.capture.kept⟩,
        fun hdone => (haccepted.done hdone).congr rfl rfl rfl rfl rfl, haccepted.pending⟩
      · exact haccepted.mgmt.1.trans (if_pos hroom)
      · exact haccepted.mgmt.1.trans (if_neg (Nat.not_lt.mpr hfull))
      · exact (haccepted.offered.full (by rw [s.answered_full _ _ _ hfull]; exact hfull)).trans
          (congrArg ReportQueue.records (s.answered_full _ _ _ hfull) :)
      · refine haccepted.offered.reply_mem ?_
        rw [s.answered_full _ _ _ hfull]
        exact List.mem_append_right _ (List.mem_singleton.mpr rfl)

end Sys2Proof.Machine
end

section
/-! The commit timeout (R69, R73, R105, R120, R176, R180, R201). -/

namespace Sys2Proof.Machine

/-! ## No window of a generation left to evaluate (R73) -/

/-- The descriptor is not SETTLING or QUEUED under the given generation. -/
def Descriptor.Spent (gen : Gen) (d : Descriptor) : Prop := d.tag = gen → d.state ≠ .settling ∧ d.state ≠ .queued

/-- No group has a SETTLING or QUEUED window of the given generation. -/
def Analysis.Spent (gen : Gen) (a : Analysis) : Prop := ∀ (g : Group) (d : Desc), (a.groups[g].descs[d]).Spent gen

theorem Descriptor.spent_of_state {gen : Gen} {d : Descriptor} (h1 : d.state ≠ .settling) (h2 : d.state ≠ .queued) :
    d.Spent gen := fun _ => ⟨h1, h2⟩

namespace State

variable {s t u : State} {c : Commit} {gen : Gen}

theorem spent_modGroup (h : s.ana.Spent gen) (g : Group) {f : GroupCtx → GroupCtx}
    (hf : ∀ d : Desc, ((f (s.group g)).descs[d]).Spent gen) : (s.modGroup g f).ana.Spent gen := fun k d => by
  have hgroup := s.group_modGroup g k f
  rw [show (s.modGroup g f).ana.groups[k] = _ from hgroup]
  split
  · exact hf d
  · exact h k d

/-- A group changed but for its descriptors. -/
theorem spent_modGroup_descs (h : s.ana.Spent gen) (g : Group) {f : GroupCtx → GroupCtx}
    (hf : (f (s.group g)).descs = (s.group g).descs) : (s.modGroup g f).ana.Spent gen :=
  spent_modGroup h g (fun d => by rw [hf]; exact h g d)

theorem spent_setDescState (h : s.ana.Spent gen) (w : WinRef) {st : DescState}
    (hst : ({ (s.group w.group).descs[w.desc] with state := st } : Descriptor).Spent gen) :
    (s.setDescState w st).ana.Spent gen :=
  spent_modGroup h w.group (fun d => by
    rw [GroupCtx.descs_setDesc]
    split
    · exact hst
    · exact h w.group d)

theorem spent_freeDesc (h : s.ana.Spent gen) (w : WinRef) : (s.freeDesc w).ana.Spent gen :=
  spent_modGroup h w.group (fun d => by
    rw [GroupCtx.descs_freeDesc]
    split
    · exact Descriptor.spent_of_state (by decide) (by decide)
    · exact h w.group d)

theorem spent_engineTake (h : s.ana.Spent gen) : s.engineTake.ana.Spent gen := by
  unfold engineTake
  split
  · exact spent_setDescState h _ (Descriptor.spent_of_state nofun nofun)
  · exact h

/-- A SETTLING window settles under its own tag, so not under the one given. -/
theorem spent_settle (h : s.ana.Spent gen) {w : WinRef} (hw : (s.group w.group).descs[w.desc].state = .settling) :
    (s.settle w).ana.Spent gen := by
  unfold settle
  split
  · exact spent_engineTake (s := (s.setDescState w .queued).setAna _)
      (spent_setDescState h w (fun htag => absurd hw (h w.group w.desc htag).1))
  · exact spent_freeDesc h w

theorem spent_settleNow (h : s.ana.Spent gen) (g : Group) : (s.settleNow g).ana.Spent gen := by
  unfold settleNow
  split
  next d hd => exact spent_settle h (GroupCtx.state_of_descIn hd)
  next => exact h

theorem spent_discardOpen (h : s.ana.Spent gen) (g : Group) : (s.discardOpen g).ana.Spent gen := by
  unfold discardOpen
  split
  · exact spent_freeDesc h _
  · exact h

theorem spent_blinded (h : s.ana.Spent gen) (g : Group) : (s.blinded g).ana.Spent gen := by
  unfold blinded
  have hblind : ((s.raise .groupBlind).modGroup g (fun x => { x with state := .blind })).ana.Spent gen :=
    spent_modGroup_descs (s := s.raise .groupBlind) h g (f := fun x => { x with state := .blind }) rfl
  generalize (s.raise .groupBlind).modGroup g (fun x => { x with state := .blind }) = u at *
  have hsettled := spent_settleNow (spent_discardOpen hblind g) g
  generalize (u.discardOpen g).settleNow g = v at *
  exact spent_modGroup_descs hsettled g (f := fun x => { x with arm := false }) rfl

/-- Entry into BLIND with no switch pending (R67). -/
theorem spent_enterBlind (h : s.ana.Spent gen) {g : Group} (hidle : s.mgmt.commit = none) : (s.enterBlind g).ana.Spent gen := by
  rw [enterBlind_of_not_pending (switchPending_of_idle hidle g)]
  exact spent_blinded h g

theorem spent_nodesLost (h : s.ana.Spent gen) (gone : Node → Bool) (hidle : s.mgmt.commit = none) :
    (s.nodesLost gone).ana.Spent gen := by
  refine (foldl_keeps (P := fun t => t.mgmt.commit = none ∧ t.ana.Spent gen) (fun t g ⟨hcommit, ht⟩ => ?_) all8 s
    ⟨hidle, h⟩).2
  refine ⟨(congrArg Management.commit (windowStep_loseReference gone g hcommit).mgmt).trans hcommit, ?_⟩
  rw [loseReference_eq]
  split
  · exact spent_enterBlind ht hcommit
  · exact ht

/-- A descriptor of a group discarded when it is SETTLING or QUEUED under the old tag (R73). -/
def discardOldAt (gen : Gen) (g : Group) (s : State) (d : Desc) : State :=
  if (s.group g).descs[d].tag == gen && ((s.group g).descs[d].state == .settling || (s.group g).descs[d].state == .queued) then
    (s.freeDesc ⟨g, d⟩).setAna { (s.freeDesc ⟨g, d⟩).ana with queue := (s.freeDesc ⟨g, d⟩).ana.queue.erase ⟨g, d⟩ }
  else s

theorem discardOld_eq (s : State) (gen : Gen) (g : Group) : s.discardOld gen g = all3.foldl (discardOldAt gen g) s := rfl

/-- A discard keeps the spent windows spent, and leaves its own spent. -/
theorem discardOldAt_spent (s : State) (gen : Gen) (g : Group) (d : Desc) :
    (s.discardOldAt gen g d).WindowStep s ∧
      (∀ (k : Group) (e : Desc), ((s.group k).descs[e]).Spent gen → (((s.discardOldAt gen g d).group k).descs[e]).Spent gen) ∧
      (((s.discardOldAt gen g d).group g).descs[d]).Spent gen := by
  have hfree : Descriptor.free.Spent gen := Descriptor.spent_of_state (by decide) (by decide)
  unfold discardOldAt
  split
  next =>
    have hself : ∀ e : Desc, (((s.freeDesc ⟨g, d⟩).group g).descs[e]) = if e = d then Descriptor.free else (s.group g).descs[e] :=
      fun e => by
        rw [freeDesc, group_modGroup_self]
        exact GroupCtx.descs_freeDesc _ _ _
    refine ⟨(windowStep_setAna _ _ _).trans (s.windowStep_freeDesc _), fun k e he => ?_, ?_⟩
    · show (((s.freeDesc ⟨g, d⟩).group k).descs[e]).Spent gen
      by_cases hk : k = g
      · subst hk
        rw [hself]
        split
        · exact hfree
        · exact he
      · rw [freeDesc, s.group_modGroup_ne _ hk]
        exact he
    · show (((s.freeDesc ⟨g, d⟩).group g).descs[d]).Spent gen
      rw [hself, if_pos rfl]
      exact hfree
  next hn =>
    refine ⟨.refl s, fun _ _ he => he, fun htag => ⟨fun hst => hn ?_, fun hst => hn ?_⟩⟩
    · rw [htag, hst]
      simp
    · rw [htag, hst]
      simp

theorem foldl_discardOldAt_spent (gen : Gen) (g : Group) : ∀ (ds : List Desc) (s : State),
    (ds.foldl (discardOldAt gen g) s).WindowStep s ∧
      (∀ (k : Group) (e : Desc), ((s.group k).descs[e]).Spent gen →
        (((ds.foldl (discardOldAt gen g) s).group k).descs[e]).Spent gen) ∧
      ∀ d ∈ ds, (((ds.foldl (discardOldAt gen g) s).group g).descs[d]).Spent gen
  | [], s => ⟨.refl s, fun _ _ he => he, fun _ hd => absurd hd List.not_mem_nil⟩
  | d :: ds, s => by
    obtain ⟨hstep, hkept, hself⟩ := s.discardOldAt_spent gen g d
    obtain ⟨rstep, rkept, rself⟩ := foldl_discardOldAt_spent gen g ds (s.discardOldAt gen g d)
    refine ⟨rstep.trans hstep, fun k e he => rkept k e (hkept k e he), fun e he => ?_⟩
    obtain rfl | he := List.mem_cons.mp he
    · exact rkept g e hself
    · exact rself e he

theorem discardOld_spent (s : State) (gen : Gen) (g : Group) : (s.discardOld gen g).WindowStep s ∧
    (∀ (k : Group) (e : Desc), ((s.group k).descs[e]).Spent gen → (((s.discardOld gen g).group k).descs[e]).Spent gen) ∧
    ∀ d : Desc, (((s.discardOld gen g).group g).descs[d]).Spent gen := by
  have hall : ∀ d : Desc, d ∈ all3 := by decide
  rw [discardOld_eq]
  obtain ⟨hstep, hkept, hself⟩ := foldl_discardOldAt_spent gen g all3 s
  exact ⟨hstep, hkept, fun d => hself d (hall d)⟩

/-- The old windows of every group discarded (R73). -/
theorem foldl_discardOld_spent (gen : Gen) : ∀ (gs : List Group) (s : State),
    (gs.foldl (discardOld gen) s).WindowStep s ∧
      (∀ (k : Group) (e : Desc), ((s.group k).descs[e]).Spent gen →
        (((gs.foldl (discardOld gen) s).group k).descs[e]).Spent gen) ∧
      ∀ g ∈ gs, ∀ d : Desc, (((gs.foldl (discardOld gen) s).group g).descs[d]).Spent gen
  | [], s => ⟨.refl s, fun _ _ he => he, fun _ hg => absurd hg List.not_mem_nil⟩
  | g :: gs, s => by
    obtain ⟨hstep, hkept, hself⟩ := s.discardOld_spent gen g
    obtain ⟨rstep, rkept, rself⟩ := foldl_discardOld_spent gen gs (s.discardOld gen g)
    rw [List.foldl_cons]
    refine ⟨rstep.trans hstep, fun k e he => rkept k e (hkept k e he), fun k hk d => ?_⟩
    obtain rfl | hk := List.mem_cons.mp hk
    · exact rkept k d (hself d)
    · exact rself k hk d

/-! ## The groups forced one after the other (R73) -/

/-- The state in which a group is forced (R73). -/
def forcedInto (st : GroupState) (p : Plan) : GroupState :=
  if st = .tracking then (if p.enabled then .seeking else .off) else st

/-- A switch of a group after its OPEN window has been discarded. -/
theorem SwitchedTo.of_discardOpen {groups : Group → Prop} {into : Group → GroupState} {g : Group}
    (h : t.SwitchedTo (s.discardOpen g) c groups into) (hg : groups g) : t.SwitchedTo s c groups into := by
  have hstep := s.windowStep_discardOpen g
  have hgroup : ∀ k, k ≠ g → (s.discardOpen g).group k = s.group k := fun k hk => by
    unfold discardOpen
    split
    · exact s.group_modGroup_ne _ hk
    · rfl
  have hdisp : (s.discardOpen g).disp = s.disp := by
    unfold discardOpen
    split <;> rfl
  obtain ⟨commit, switched, kept, aborted, unaborted, outside, disp⟩ := h
  rw [hstep.mgmt] at commit
  rw [hstep.snap, hstep.rep] at aborted unaborted
  have hsettings : (s.discardOpen g).settings = s.settings := congrArg (fun m : Management => m.active.settings) hstep.mgmt
  rw [hsettings] at aborted
  refine ⟨commit, switched, fun k hk => ?_, aborted, unaborted, outside.trans hstep.outside, disp.trans hdisp⟩
  obtain ⟨kgroup, kvector, klatch, kverdict⟩ := kept k hk
  refine ⟨kgroup.trans (hgroup k (fun e => hk (by rw [e]; exact hg))), kvector.trans ?_, klatch.trans ?_, kverdict.trans ?_⟩
  · rw [vector, hstep.chk]
    rfl
  · rw [latch, hstep.latches]
    rfl
  · rw [hstep.verdicts]

theorem forceSwitch_switchedTo (h : s.mgmt.commit = some c) (g : Group) : (s.forceSwitch g).SwitchedTo s c
    (fun k => k = g ∧ GroupSet.has c.switched k = false) (fun k => forcedInto (s.group k).state s.mgmt.staging.plans[k]) := by
  unfold forceSwitch
  rw [switchPending_eq h]
  cases hflag : GroupSet.has c.switched g with
  | true =>
    refine (SwitchedTo.none (into := fun k => forcedInto (s.group k).state s.mgmt.staging.plans[k]) h).congr
      (fun k => ⟨False.elim, fun ⟨e, hk⟩ => ?_⟩) (fun _ _ => rfl)
    rw [e, hflag] at hk
    cases hk
  | false =>
    have hself : ∀ k, k = g ↔ k = g ∧ GroupSet.has c.switched k = false := fun k => ⟨fun e => ⟨e, e ▸ hflag⟩, And.left⟩
    show SwitchedTo (if _ then _ else _) _ _ _ _
    by_cases hstate : (s.group g).state = .tracking
    · rw [if_pos (beq_iff_eq.mpr hstate)]
      have hstep := s.windowStep_discardOpen g
      refine ((switchSeekOrOff_switchedTo (s := s.discardOpen g) (by rw [hstep.mgmt]; exact h) g
        (into := fun k => forcedInto (s.group k).state s.mgmt.staging.plans[k]) ?_).of_discardOpen rfl).congr hself
        (fun _ _ => rfl)
      rw [hstep.mgmt]
      exact if_pos hstate
    · rw [if_neg (fun e => hstate (beq_iff_eq.mp e))]
      exact (switchGroup_switchedTo h g (into := fun k => forcedInto (s.group k).state s.mgmt.staging.plans[k])
        (if_neg hstate)).congr hself (fun _ _ => rfl)

theorem forceSwitches_switchedTo (h : s.mgmt.commit = some c) : (all8.foldl forceSwitch s).SwitchedTo s c
    (fun k => GroupSet.has c.switched k = false) (fun k => forcedInto (s.group k).state s.mgmt.staging.plans[k]) :=
  (foldl_switchedTo (q := fun _ b => b = false) (a := forcedInto) (fun h g => forceSwitch_switchedTo h g) all8
    (by decide) h).congr (fun k => and_iff_right (mem_all8 k)) (fun _ _ => rfl)

/-! ## What follows the forced switches -/

/-- What the rest of the timeout keeps of the groups and the blocks behind them; `t` is the state after, `s` the one
before. -/
structure ForcedKept (t s : State) : Prop where
  gens : ∀ g : Group, (t.group g).gen = (s.group g).gen
  vector : ∀ g : Group, s.vector g = 0 → t.vector g = 0
  latch : ∀ g : Group, s.latch g = none → t.latch g = none
  verdicts : t.ana.lastVerdicts = s.ana.lastVerdicts
  snap : t.snap = s.snap
  offered : s.rep.Offered (fun m => (Marker.snapshot false).sameKind m = false) t.rep
  outside : t.outside = s.outside
  raised : ∀ k : EventKind, KindSet.has s.disp.pending k = true → KindSet.has t.disp.pending k = true

theorem ForcedKept.refl (s : State) : s.ForcedKept s :=
  ⟨fun _ => rfl, fun _ h => h, fun _ h => h, rfl, rfl, .refl, rfl, fun _ h => h⟩

theorem ForcedKept.trans (h : u.ForcedKept t) (k : t.ForcedKept s) : u.ForcedKept s where
  gens g := (h.gens g).trans (k.gens g)
  vector g hg := h.vector g (k.vector g hg)
  latch g hg := h.latch g (k.latch g hg)
  verdicts := h.verdicts.trans k.verdicts
  snap := h.snap.trans k.snap
  offered := k.offered.trans h.offered
  outside := h.outside.trans k.outside
  raised x hx := h.raised x (k.raised x hx)

theorem WindowStep.forcedKept (h : t.WindowStep s) : t.ForcedKept s where
  gens := h.gens
  vector g hg := (congrArg (fun x : CheckUnit => x.vectors[g]) h.chk).trans hg
  latch g hg := (congrArg (fun x : Vector (Option Diagnosis) 8 => x[g]) h.latches).trans hg
  verdicts := h.verdicts
  snap := h.snap
  offered := h.rep ▸ .refl
  outside := h.outside
  raised := h.raised

theorem forcedKept_judgeHold (s : State) : s.judgeHold.ForcedKept s := by
  obtain ⟨gens, checks, verdicts, snap, offered, -, -, raised⟩ := s.commitKept_judgeHold
  exact ⟨gens, fun g hg => (checks g).1.trans hg, fun g hg => (checks g).2.trans hg, verdicts, snap,
    offered.mono snapshot_sameKind_closing, SameWithin.judgeHold_outside s, raised⟩

theorem quiescedFrom_lastVerdicts (s : State) (g : Group) : (s.quiescedFrom g).ana.lastVerdicts = s.ana.lastVerdicts := by
  unfold quiescedFrom
  rw [clearChecks, setLimitStates_eq]
  rfl

theorem forcedKept_judgeQuiesced {g : Group} (h : s.switchPending g = false) : (s.judgeQuiesced g).ForcedKept s ∧
    (s.judgeQuiesced g).mgmt = s.mgmt ∧ ∀ k : Group, ((s.judgeQuiesced g).group k).descs = (s.group k).descs := by
  have houtside := (outside_switchInvariant s.outside).judgeQuiesced rfl g
  rw [judgeQuiesced_of_not_pending h] at houtside ⊢
  split
  · rw [if_pos (by assumption)] at houtside
    show (s.quiescedFrom g).ForcedKept s ∧ (s.quiescedFrom g).mgmt = s.mgmt ∧ _
    have hgroup := s.quiescedFrom_group g
    obtain ⟨hframe, -, -, hrep⟩ := s.quiescedFrom_frame g
    refine ⟨⟨fun k => ?_, fun k hk => ?_, fun k hk => ?_, ?_, (congrArg State.snap hframe :), ?_, ?_, ?_⟩,
      (congrArg State.mgmt hframe :), s.quiescedFrom_descs g⟩
    · rw [hgroup]
      split
      next e => rw [e]
      next => rfl
    · rw [quiescedFrom_vector, hk, ite_self]
    · rw [quiescedFrom_latch, hk, ite_self]
    · exact s.quiescedFrom_lastVerdicts g
    · rw [hrep]
      exact .offer .refl rfl
    · exact houtside
    · exact fun x hx => (congrArg (fun y : State => KindSet.has y.disp.pending x) hframe :).trans hx
  · exact ⟨.refl s, rfl, fun _ => rfl⟩

/-- QUIESCING groups judged one after the other once every group has switched. -/
theorem forcedKept_judgeAll (h : ∀ g : Group, s.switchPending g = false) : (all8.foldl judgeQuiesced s).ForcedKept s ∧
    (all8.foldl judgeQuiesced s).mgmt = s.mgmt ∧
    ∀ g : Group, ((all8.foldl judgeQuiesced s).group g).descs = (s.group g).descs := by
  refine foldl_keeps (P := fun t => t.ForcedKept s ∧ t.mgmt = s.mgmt ∧ ∀ g : Group, (t.group g).descs = (s.group g).descs)
    (fun t g ⟨hkept, hmgmt, hdescs⟩ => ?_) all8 s ⟨.refl s, rfl, fun _ => rfl⟩
  have hpending : t.switchPending g = false := by
    rw [switchPending, hmgmt]
    exact h g
  obtain ⟨gkept, gmgmt, gdescs⟩ := t.forcedKept_judgeQuiesced hpending
  exact ⟨gkept.trans hkept, gmgmt.trans hmgmt, fun k => (gdescs k).trans (hdescs k)⟩

/-- How many groups had not switched (R180). -/
def forcedCount (c : Commit) : Nat := (all8.filter (fun g => !GroupSet.has c.switched g)).length

theorem unswitched_eq (h : s.mgmt.commit = some c) : s.unswitched = forcedCount c := by
  unfold unswitched forcedCount
  exact congrArg List.length (List.filter_congr (fun g _ => switchPending_eq h g))

/-- The commit after its timeout (R180). -/
def forcedCommit (c : Commit) : Commit := { c with switched := 0xFF, timer := none, forced := forcedCount c }

theorem eq_all_of_has {x : GroupSet} (h : ∀ g : Group, GroupSet.has x g = true) : x = 0xFF := by
  refine BitVec.eq_of_getLsbD_eq (fun i hi => ?_)
  exact (h ⟨i, hi⟩).trans (GroupSet.has_all ⟨i, hi⟩).symm

/-- COMMIT_FORCED raised, the timer stopped and the forced switches counted (R180). -/
def timeoutTold (s : State) (c : Commit) : State :=
  (s.raise .commitForced).setMgmt { s.mgmt with commit := some (forcedCommit c) }

theorem forcedKept_timeoutTold (s : State) (c : Commit) : (s.timeoutTold c).ForcedKept s :=
  ⟨fun _ => rfl, fun _ hg => hg, fun _ hg => hg, rfl, rfl, .refl, rfl, s.raised_raise _⟩

theorem timeoutTold_spec (s : State) (c : Commit) : (s.timeoutTold c).ana = s.ana ∧
    (s.timeoutTold c).mgmt.commit = some (forcedCommit c) ∧
    KindSet.has (s.timeoutTold c).disp.pending .commitForced = true :=
  ⟨rfl, rfl, s.raised_raise_self _⟩

/-- The groups with the remaining switches forced and the old windows discarded (R73). -/
def forcedWindows (s : State) : State := all8.foldl (discardOld s.mgmt.activeGen) (all8.foldl forceSwitch s)

/-- The forced switches and the discards: `v` is the state between the two. -/
theorem forcedWindows_spec (h : s.mgmt.commit = some c) : ∃ v : State,
    v.SwitchedTo s c (fun k => GroupSet.has c.switched k = false)
      (fun k => forcedInto (s.group k).state s.mgmt.staging.plans[k]) ∧
    s.forcedWindows.ForcedKept v ∧ s.forcedWindows.ana.Spent s.mgmt.activeGen ∧
    s.forcedWindows.mgmt.commit = some { c with switched := 0xFF } := by
  have hswitched := forceSwitches_switchedTo h
  obtain ⟨x, hmgmt, hx⟩ := hswitched.commit
  obtain rfl : x = 0xFF := eq_all_of_has (fun g => (hx g).mpr (by cases GroupSet.has c.switched g <;> simp))
  unfold forcedWindows
  generalize all8.foldl forceSwitch s = v at *
  obtain ⟨hstep, -, hspent⟩ := foldl_discardOld_spent s.mgmt.activeGen all8 v
  exact ⟨v, hswitched, hstep.forcedKept, fun g => hspent g (mem_all8 g), by rw [hstep.mgmt, hmgmt]⟩

theorem forceCommit_eq (h : s.mgmt.commit = some c) :
    s.forceCommit = all8.foldl judgeQuiesced (s.forcedWindows.timeoutTold c).judgeHold := by
  obtain ⟨-, -, -, -, hcommit⟩ := forcedWindows_spec h
  have hcount := unswitched_eq h
  unfold forcedWindows at *
  unfold forceCommit
  dsimp only
  generalize all8.foldl (discardOld s.mgmt.activeGen) (all8.foldl forceSwitch s) = d at *
  have hraised : (d.raise .commitForced).mgmt.commit = some { c with switched := 0xFF } := hcommit
  rw [hraised, hcount]
  rfl

/-- The timeout of a commit: `v` is the state in which the remaining groups have switched (R73, R180). -/
theorem forceCommit_forced (h : s.mgmt.commit = some c) : ∃ v : State,
    v.SwitchedTo s c (fun k => GroupSet.has c.switched k = false)
      (fun k => forcedInto (s.group k).state s.mgmt.staging.plans[k]) ∧
    s.forceCommit.ForcedKept v ∧ s.forceCommit.mgmt.commit = some (forcedCommit c) ∧
    s.forceCommit.ana.Spent s.mgmt.activeGen ∧ KindSet.has s.forceCommit.disp.pending .commitForced = true := by
  obtain ⟨v, hswitched, hkept, hspent, -⟩ := forcedWindows_spec h
  have tkept := s.forcedWindows.forcedKept_timeoutTold c
  obtain ⟨tana, tcommit, traised⟩ := s.forcedWindows.timeoutTold_spec c
  rw [forceCommit_eq h]
  generalize s.forcedWindows.timeoutTold c = w at *
  obtain ⟨jana, -, -, -, -, -, -, jmgmt⟩ := w.judgeHold_fields
  have jkept := w.forcedKept_judgeHold
  have jcommit : w.judgeHold.mgmt.commit = some (forcedCommit c) := by rw [jmgmt]; exact tcommit
  generalize w.judgeHold = j at *
  obtain ⟨qkept, qmgmt, qdescs⟩ := forcedKept_judgeAll (s := j) (fun g => by
    rw [switchPending_eq jcommit, show GroupSet.has (forcedCommit c).switched g = true from GroupSet.has_all g]
    rfl)
  refine ⟨v, hswitched, ((qkept.trans jkept).trans tkept).trans hkept, ?_, fun g k => ?_, ?_⟩
  · rw [qmgmt]
    exact jcommit
  · have hdesc : ((all8.foldl judgeQuiesced j).ana.groups[g]).descs = (s.forcedWindows.ana.groups[g]).descs :=
      (qdescs g).trans (congrArg (fun a : Analysis => (a.groups[g]).descs) (jana.trans tana))
    rw [hdesc]
    exact hspent g k
  · exact qkept.raised _ (jkept.raised _ traised)

/-! ## The end of the event -/

/-- A property of the analysis that the loss of references keeps is kept at the end of an event with no reset coming. -/
theorem finish_keeps {P : Analysis → Prop}
    (hlost : ∀ (u : State) (gone : Node → Bool), u.mgmt.commit = none → P u.ana → P (u.nodesLost gone).ana)
    (hmark : s.links.markReset = none) (hrestart : s.mgmt.restartMark = false) (h : P s.ana) : P s.finish.ana := by
  have hheld : P s.judgeHold.ana := by rw [s.judgeHold_fields.1]; exact h
  rw [finish_of_pending hmark hrestart]
  split
  · rw [(judgeHold_fields _).1]
    unfold complete
    split
    · exact applySettings_keeps hlost _ rfl hheld
    · exact hheld
  · exact hheld

end State

/-- Settles O40: the forced switches, the discards, and the end of the event while the commit is pending. -/
theorem commitTimeoutForces : Obligations.CommitTimeoutForces := by
  intro s hheld
  have hrun : exec .commitTimeout s = .next s.commitExpires := by
    refine congrArg Host.Outcome.next ?_
    rw [State.running, s.isHeld_eq_false_iff.mpr hheld]
    rfl
  rw [hrun]
  refine ⟨fun hidle => ?_, fun c hc htimer => ?_, fun c hc htimer hok hmark hrestart => ?_⟩
  · rw [State.commitExpires, hidle]
  · rw [State.commitExpires, hc]
    exact congrArg Host.Outcome.next (if_neg (by rw [htimer]; exact Bool.false_ne_true))
  · intro forced
    have hexpires : s.commitExpires = s.forceCommit.finish := by
      rw [State.commitExpires, hc]
      exact if_pos (Option.isSome_iff_ne_none.mpr htimer)
    rw [hexpires]
    obtain ⟨v, hswitched, hkept, hcommit, hspent, hforced⟩ := State.forceCommit_forced hc
    generalize s.forceCommit = f at *
    have houtside : f.outside = s.outside := hkept.outside.trans hswitched.outside
    have hlinks : f.links = s.links := State.links_of_outside houtside
    have hmark' : f.links.markReset = none := (congrArg Links.markReset hlinks).trans hmark
    have hrestart' : f.mgmt.restartMark = false := (State.restartMark_of_outside houtside).trans hrestart
    have hcount : (State.forcedCommit c).forced ≤ 255 := by
      refine (List.length_filter_le _ _).trans ?_
      decide
    have hjudged := State.finish_commitJudged hcommit hcount hmark' hrestart'
    have hended := State.finish_keeps (P := fun a => a.Spent s.mgmt.activeGen)
      (fun u gone hidle hu => State.spent_nodesLost hu gone hidle) hmark' hrestart' hspent
    have hsettings : f.settings = s.settings := (congrArg (fun x : State => x.mgmt.active.settings) houtside :)
    have hstaging : f.mgmt.staging = s.mgmt.staging := (congrArg (fun x : State => x.mgmt.staging) houtside :)
    obtain ⟨jkept, jpending, jready⟩ := hjudged
    refine ⟨f.finish, rfl, jkept.raised _ hforced, fun g => ?_, fun g hg => ?_, fun g d => hended g d, ?_,
      jkept.mgmt.1.trans hstaging, jkept.mgmt.2.1.trans (congrArg (fun x : State => x.mgmt.request) houtside :),
      fun hidle => ?_, fun u hu => ?_⟩
    · refine (jkept.gens g).trans ((hkept.gens g).trans ?_)
      cases hflag : GroupSet.has c.switched g with
      | false => exact (hswitched.switched g hflag).1
      | true =>
        rw [(hswitched.kept g (fun hn => absurd (hflag.symm.trans hn) (by decide))).1]
        obtain ⟨-, hgens⟩ := hok
        rw [hc] at hgens
        exact (hgens.2 g).trans (if_pos hflag)
    · obtain ⟨-, -, hvector, hlatch, hverdict⟩ := hswitched.switched g hg
      exact ⟨(jkept.checks g).1.trans (hkept.vector g hvector), (jkept.checks g).2.trans (hkept.latch g hlatch),
        (congrArg (fun x => x[g]) (jkept.verdicts.trans hkept.verdicts)).trans hverdict⟩
    · exact hswitched.captureEnded (hkept.offered.trans (jkept.offered.mono State.snapshot_sameKind_closing))
        (fun _ hm => hm) (jkept.snap.trans hkept.snap)
    · have hready : f.commitReady = true := by
        by_contra hn
        obtain ⟨-, -, -, -, -, -, -, hmgmt⟩ := f.judgeHold_fields
        rw [jpending (Bool.eq_false_of_not_eq_true hn), hmgmt] at hidle
        exact Option.some_ne_none _ (hcommit.symm.trans hidle)
      exact (jready hready).2.congr hsettings hstaging hlinks (congrArg State.fwd houtside :)
        (congrArg State.sources houtside :)
    · have hunready : f.commitReady = false := by
        refine Bool.eq_false_of_not_eq_true (fun hready => ?_)
        rw [(jready hready).1] at hu
        cases hu
      obtain ⟨-, -, -, -, hsources, hfwd, flinks, hmgmt⟩ := f.judgeHold_fields
      rw [jpending hunready, hmgmt] at hu
      obtain rfl : State.forcedCommit c = u := Option.some.inj (hcommit.symm.trans hu)
      rw [jpending hunready, hmgmt]
      exact ⟨(congrArg (fun x : State => x.mgmt.active) houtside :), (congrArg (fun x : State => x.mgmt.activeGen) houtside :),
        rfl, rfl, rfl, rfl, flinks.trans hlinks, hsources.trans (congrArg State.sources houtside :),
        hfwd.trans (congrArg State.fwd houtside :)⟩

end Sys2Proof.Machine
end

section
/-! The loss of a reference with no commit pending (R38, R41, R67). -/

namespace Sys2Proof.Machine

namespace State

variable {s t u : State} {g : Group} {x : Option Group}

/-! ## The windows of a group that enters BLIND -/

/-- A window has stayed in its state, or the engine has taken it (R77). -/
def Moved (t s : State) (v : WinRef) : Prop :=
  t.stateOf v = s.stateOf v ∨ (s.stateOf v = .queued ∧ t.stateOf v = .evaluating)

theorem Moved.trans {v : WinRef} (h : u.Moved t v) (k : t.Moved s v) : u.Moved s v := by
  obtain k | ⟨k1, k2⟩ := k
  · obtain h | ⟨h1, h2⟩ := h
    · exact .inl (h.trans k)
    · exact .inr ⟨k ▸ h1, h2⟩
  · obtain h | ⟨h1, -⟩ := h
    · exact .inr ⟨k1, h.trans k2⟩
    · rw [k2] at h1
      cases h1

theorem Moved.eq {v : WinRef} (h : t.Moved s v) (hv : s.stateOf v ≠ .queued) : t.stateOf v = s.stateOf v :=
  h.resolve_right (fun hm => hv hm.1)

theorem stateOf_discardOpen (h : s.WindowsBut x) (g : Group) (v : WinRef) : (s.discardOpen g).stateOf v =
    if v.group = g ∧ s.stateOf v = .opened then .free else s.stateOf v := by
  unfold discardOpen
  split
  next d hd =>
    have hopen : s.stateOf ⟨g, d⟩ = .opened := GroupCtx.state_of_descIn hd
    rw [stateOf_freeDesc]
    refine if_congr ⟨fun e => ?_, fun ⟨hg, hv⟩ => ?_⟩ rfl rfl
    · subst e
      exact ⟨rfl, hopen⟩
    · obtain ⟨k, e⟩ := v
      obtain rfl : k = g := hg
      rw [h.opened k e d hv hopen]
  next hd =>
    refine (if_neg (fun ⟨hg, hv⟩ => ?_)).symm
    obtain ⟨k, e⟩ := v
    obtain rfl : k = g := hg
    exact ((s.group k).descIn_eq_none_iff _).mp hd e hv

theorem settle_of_full (hfull : 16 ≤ s.ana.queue.length) (w : WinRef) :
    s.settle w = (s.freeDesc w).raise .evaluationOverrun :=
  if_neg (Nat.not_lt.mpr hfull)

theorem length_queue_engineTake (s : State) : s.engineTake.ana.queue.length ≤ s.ana.queue.length := by
  unfold engineTake
  split
  next hq =>
    rw [hq]
    exact Nat.le_succ _
  next => exact le_refl _

theorem length_queue_settle (s : State) (w : WinRef) : (s.settle w).ana.queue.length ≤ s.ana.queue.length + 1 := by
  unfold settle
  split
  · refine (length_queue_engineTake _).trans (le_of_eq ?_)
    exact List.length_append
  · exact Nat.le_succ _

/-- The SETTLING window of a group settles; every other window stays or is taken by the engine (R63, R66, R77). -/
theorem settleNow_moves (h : s.WindowsBut x) (g : Group) :
    (s.settleNow g).ana.queue.length ≤ s.ana.queue.length + 1 ∧
      ∀ v : WinRef, (¬ (v.group = g ∧ s.stateOf v = .settling) → (s.settleNow g).Moved s v) ∧
        (v.group = g ∧ s.stateOf v = .settling →
          (s.settleNow g).stateOf v = .queued ∨ (s.settleNow g).stateOf v = .evaluating ∨
            (16 ≤ s.ana.queue.length ∧ (s.settleNow g).stateOf v = .free ∧
              KindSet.has (s.settleNow g).disp.pending .evaluationOverrun = true)) := by
  have hnone : (s.group g).descIn .settling = none → s.settleNow g = s := fun hd => by rw [settleNow, hd]
  have hsome : ∀ d, (s.group g).descIn .settling = some d → s.settleNow g = s.settle ⟨g, d⟩ := fun d hd => by
    rw [settleNow, hd]
  cases hd : (s.group g).descIn .settling with
  | none =>
    rw [hnone hd]
    refine ⟨Nat.le_succ _, fun v => ⟨fun _ => .inl rfl, fun ⟨hg, hv⟩ => ?_⟩⟩
    obtain ⟨k, e⟩ := v
    obtain rfl : k = g := hg
    exact absurd hv (((s.group k).descIn_eq_none_iff _).mp hd e)
  | some d =>
    have hset : s.stateOf ⟨g, d⟩ = .settling := GroupCtx.state_of_descIn hd
    rw [hsome d hd]
    refine ⟨?_, fun v => ⟨fun hv => ?_, fun ⟨hg, hv⟩ => ?_⟩⟩
    · exact s.length_queue_settle _
    · have hne : v ≠ ⟨g, d⟩ := fun e => hv (by rw [e]; exact ⟨rfl, hset⟩)
      obtain hsame | ⟨hm, htaken⟩ := (s.stateOf_settle ⟨g, d⟩ v).1 hne
      · exact .inl hsame
      · exact .inr ⟨(h.queued v).mp hm, htaken⟩
    · obtain ⟨k, e⟩ := v
      obtain rfl : k = g := hg
      obtain rfl := h.settling k e d hv hset
      obtain hq | he | ⟨hfull, hfree⟩ := (s.stateOf_settle ⟨k, e⟩ ⟨k, e⟩).2
      · exact .inl hq
      · exact .inr (.inl he)
      · refine .inr (.inr ⟨hfull, hfree, ?_⟩)
        rw [settle_of_full hfull]
        exact raised_raise_self _ _

/-- The group on its way into BLIND, its windows as they were (R67). -/
def blindStart (s : State) (g : Group) : State :=
  (s.raise .groupBlind).modGroup g (fun x => { x with state := .blind })

/-- The group with its OPEN window discarded on its way into BLIND (R67). -/
def blindOpen (s : State) (g : Group) : State := (s.blindStart g).discardOpen g

theorem blinded_eq (s : State) (g : Group) :
    s.blinded g = ((s.blindOpen g).settleNow g).modGroup g (fun x => { x with arm := false }) := rfl

theorem group_blindStart (s : State) (g k : Group) :
    (s.blindStart g).group k = if k = g then { s.group g with state := .blind } else s.group k :=
  (s.raise .groupBlind).group_modGroup g k (fun x => { x with state := .blind })

theorem stateOf_blindStart (s : State) (g : Group) (v : WinRef) : (s.blindStart g).stateOf v = s.stateOf v := by
  obtain ⟨k, d⟩ := v
  rw [stateOf, group_blindStart]
  split
  next e =>
    obtain rfl : k = g := e
    rfl
  next => rfl

theorem queue_blindStart (s : State) (g : Group) : (s.blindStart g).ana.queue = s.ana.queue := rfl

theorem windowsBut_blindStart (h : s.WindowsBut none) (g : Group) : (s.blindStart g).WindowsBut (some g) :=
  WindowsBut.modGroup (s := s.raise .groupBlind) (f := fun x => { x with state := .blind }) ((h.exempt g).of_ana rfl)
    (fun _ _ => rfl)

theorem queue_discardOpen (s : State) (g : Group) : (s.discardOpen g).ana.queue = s.ana.queue := by
  unfold discardOpen
  split <;> rfl

theorem stateOf_blindOpen (h : s.WindowsBut none) (g : Group) : (s.blindOpen g).WindowsBut (some g) ∧
    (∀ v : WinRef, (s.blindOpen g).stateOf v = if v.group = g ∧ s.stateOf v = .opened then .free else s.stateOf v) ∧
    (s.blindOpen g).ana.queue = s.ana.queue := by
  have hstart := windowsBut_blindStart h g
  refine ⟨hstart.discardOpen g, fun v => ?_, ?_⟩
  · rw [blindOpen, stateOf_discardOpen hstart, stateOf_blindStart]
  · rw [blindOpen, queue_discardOpen, queue_blindStart]

/-- Entry into BLIND, window by window (R67). -/
theorem blinded_moves (h : s.WindowsBut none) (g : Group) :
    (s.blinded g).WindowsBut none ∧ (s.blinded g).ana.queue.length ≤ s.ana.queue.length + 1 ∧
      (∀ v : WinRef, v.group ≠ g → (s.blinded g).Moved s v) ∧
      (∀ v : WinRef, v.group = g → s.stateOf v = .opened → (s.blinded g).stateOf v = .free) ∧
      ∀ v : WinRef, v.group = g → s.stateOf v = .settling →
        (s.blinded g).stateOf v = .queued ∨ (s.blinded g).stateOf v = .evaluating ∨
          (16 ≤ s.ana.queue.length ∧ (s.blinded g).stateOf v = .free ∧
            KindSet.has (s.blinded g).disp.pending .evaluationOverrun = true) := by
  obtain ⟨hbut, hstate, hqueue⟩ := stateOf_blindOpen h g
  obtain ⟨hlength, hmoves⟩ := settleNow_moves hbut g
  have hnone := noneOpen_settleNow (s := s.blindOpen g) (g := g) (fun d => by
    rw [hstate]
    split
    · decide
    next hn => exact fun ho => hn ⟨rfl, ho⟩) g
  have hsettled := hbut.settleNow g
  rw [hqueue] at hlength hmoves
  rw [blinded_eq]
  generalize (s.blindOpen g).settleNow g = w at hlength hmoves hnone hsettled ⊢
  have hsame : ∀ v, (w.modGroup g (fun x => { x with arm := false })).stateOf v = w.stateOf v := fun v =>
    w.stateOf_modGroup_same g (f := fun x => { x with arm := false }) (fun _ => rfl) v
  refine ⟨WindowsBut.of_noneOpen (hsettled.modGroup (f := fun x => { x with arm := false }) (fun _ _ => rfl))
    (noneOpen_modGroup hnone g (f := fun x => { x with arm := false }) (fun _ _ => rfl)), hlength, fun v hv => ?_,
    fun v hv ho => ?_, fun v hv hs => ?_⟩
  · have hopen : (s.blindOpen g).stateOf v = s.stateOf v := (hstate v).trans (if_neg (fun hc => hv hc.1))
    have hmoved := (hmoves v).1 (fun hc => hv hc.1)
    unfold Moved at hmoved ⊢
    rw [hsame, ← hopen]
    exact hmoved
  · have hfree : (s.blindOpen g).stateOf v = .free := (hstate v).trans (if_pos ⟨hv, ho⟩)
    rw [hsame]
    obtain hkept | ⟨hq, -⟩ := (hmoves v).1 (fun hc => by rw [hfree] at hc; cases hc.2)
    · exact hkept.trans hfree
    · rw [hfree] at hq
      cases hq
  · have hset : (s.blindOpen g).stateOf v = .settling :=
      (hstate v).trans ((if_neg (fun hc => by rw [hs] at hc; cases hc.2)).trans hs)
    rw [hsame]
    exact (hmoves v).2 ⟨hv, hset⟩

/-! ## The groups themselves -/

/-- A window that settles changes descriptors only outside its own group. -/
theorem group_settle (s : State) (w : WinRef) {k : Group} (hk : k ≠ w.group) :
    { (s.settle w).group k with descs := (s.group k).descs } = s.group k := by
  unfold settle
  split
  · have htaken := group_engineTake ((s.setDescState w .queued).setAna
      { (s.setDescState w .queued).ana with queue := (s.setDescState w .queued).ana.queue ++ [w] }) k
    have hset : (s.setDescState w .queued).group k = s.group k := s.group_modGroup_ne _ hk
    exact (congrArg (fun y : GroupCtx => { y with descs := (s.group k).descs }) htaken :).trans
      (congrArg (fun y : GroupCtx => { y with descs := (s.group k).descs }) hset)
  · have hfree : (s.freeDesc w).group k = s.group k := s.group_modGroup_ne _ hk
    exact (congrArg (fun y : GroupCtx => { y with descs := (s.group k).descs }) hfree :)

theorem group_discardOpen_ne (s : State) {g k : Group} (hk : k ≠ g) : (s.discardOpen g).group k = s.group k := by
  unfold discardOpen
  split
  · exact s.group_modGroup_ne _ hk
  · rfl

theorem group_settleNow_ne (s : State) {g k : Group} (hk : k ≠ g) :
    { (s.settleNow g).group k with descs := (s.group k).descs } = s.group k := by
  unfold settleNow
  split
  · exact group_settle _ _ hk
  · rfl

theorem blinded_other (s : State) {g k : Group} (hk : k ≠ g) :
    ((s.blinded g).group k).state = (s.group k).state ∧ ((s.blinded g).group k).arm = (s.group k).arm := by
  have hopen : (s.blindOpen g).group k = s.group k := by
    rw [blindOpen, group_discardOpen_ne _ hk, group_blindStart, if_neg hk]
  have hsettled := (s.blindOpen g).group_settleNow_ne hk
  rw [hopen] at hsettled
  rw [blinded_eq]
  generalize (s.blindOpen g).settleNow g = w at hsettled ⊢
  rw [w.group_modGroup_ne _ hk]
  exact ⟨(congrArg GroupCtx.state hsettled :), (congrArg GroupCtx.arm hsettled :)⟩

theorem blinded_self (s : State) (g : Group) : ((s.blinded g).group g).state = .blind ∧ ((s.blinded g).group g).arm = false ∧
    KindSet.has (s.blinded g).disp.pending .groupBlind = true := by
  have hstate : (((s.blindOpen g).settleNow g).group g).state = .blind := by
    rw [state_settleNow, blindOpen, state_discardOpen, group_blindStart, if_pos rfl]
  have hstep := (windowStep_settleNow (s.blindOpen g) g).trans (windowStep_discardOpen (s.blindStart g) g)
  have hraised : KindSet.has (s.blindStart g).disp.pending .groupBlind = true := s.raised_raise_self _
  have hkept := hstep.raised _ hraised
  rw [blinded_eq]
  generalize (s.blindOpen g).settleNow g = w at hstate hkept ⊢
  rw [w.group_modGroup_self]
  exact ⟨hstate, rfl, hkept⟩

/-! ## The groups one after the other (R41) -/

/-- What the loss of a reference leaves of the groups outside the given list; `t` is the state after, `s` the one before. -/
structure LostApart (t s : State) (gs : List Group) : Prop where
  step : t.WindowStep s
  apart : ∀ k : Group, k ∉ gs → (t.group k).state = (s.group k).state ∧ (t.group k).arm = (s.group k).arm
  windows : s.WindowsBut none → t.WindowsBut none ∧ t.ana.queue.length ≤ s.ana.queue.length + gs.length ∧
    ∀ v : WinRef, v.group ∉ gs → t.Moved s v

theorem lostApart_blinded (s : State) (g : Group) : (s.blinded g).LostApart s [g] where
  step := s.windowStep_blinded g
  apart _ hk := s.blinded_other (fun e => hk (by rw [e]; exact List.mem_singleton.mpr rfl))
  windows h := by
    obtain ⟨hok, hlength, hmoved, -, -⟩ := blinded_moves h g
    exact ⟨hok, hlength, fun v hv => hmoved v (fun e => hv (by rw [e]; exact List.mem_singleton.mpr rfl))⟩

theorem LostApart.refl (s : State) (gs : List Group) : s.LostApart s gs where
  step := .refl s
  apart _ _ := ⟨rfl, rfl⟩
  windows h := ⟨h, Nat.le_add_right _ _, fun _ _ => .inl rfl⟩

theorem LostApart.trans {gs ks : List Group} (h : u.LostApart t ks) (k : t.LostApart s gs) : u.LostApart s (gs ++ ks) where
  step := h.step.trans k.step
  apart g hg := by
    rw [List.mem_append, not_or] at hg
    obtain ⟨h1, h2⟩ := h.apart g hg.2
    obtain ⟨k1, k2⟩ := k.apart g hg.1
    exact ⟨h1.trans k1, h2.trans k2⟩
  windows hok := by
    obtain ⟨tok, tlength, tmoved⟩ := k.windows hok
    obtain ⟨uok, ulength, umoved⟩ := h.windows tok
    refine ⟨uok, ?_, fun v hv => ?_⟩
    · rw [List.length_append]
      omega
    · rw [List.mem_append, not_or] at hv
      exact (umoved v hv.2).trans (tmoved v hv.1)

/-- The group loses its reference to a node that has gone (R67). -/
def Loses (s : State) (gone : Node → Bool) (g : Group) : Prop :=
  ((s.group g).state = .seeking ∨ (s.group g).state = .tracking) ∧
    ∃ n : Node, s.mgmt.active.refNode g = some n ∧ gone n = true

theorem loseReference_idle (h : s.mgmt.commit = none) (gone : Node → Bool) (g : Group) :
    (s.Loses gone g → s.loseReference gone g = s.blinded g) ∧ (¬ s.Loses gone g → s.loseReference gone g = s) := by
  rw [loseReference_eq, groupBank_idle h]
  exact ⟨fun hl => (if_pos hl).trans (enterBlind_of_not_pending (switchPending_of_idle h g)), fun hl => if_neg hl⟩

theorem lostApart_loseReference (h : s.mgmt.commit = none) (gone : Node → Bool) (g : Group) :
    (s.loseReference gone g).LostApart s [g] := by
  obtain ⟨hloses, hkeeps⟩ := loseReference_idle h gone g
  by_cases hl : s.Loses gone g
  · rw [hloses hl]
    exact s.lostApart_blinded g
  · rw [hkeeps hl]
    exact .refl s _

theorem foldl_lostApart (gone : Node → Bool) : ∀ (gs : List Group) {s : State}, s.mgmt.commit = none →
    (gs.foldl (fun s g => s.loseReference gone g) s).LostApart s gs
  | [], s, _ => .refl s []
  | g :: gs, s, h => by
    have hfirst := lostApart_loseReference h gone g
    exact (foldl_lostApart gone gs ((congrArg Management.commit hfirst.step.mgmt).trans h)).trans hfirst

/-- What the loss of nodes leaves of one group (R41, R67). -/
structure LostAt (t s : State) (gone : Node → Bool) (g : Group) : Prop where
  kept : ¬ s.Loses gone g → (t.group g).state = (s.group g).state
  lost : s.Loses gone g → (t.group g).state = .blind ∧ (t.group g).arm = false ∧
    KindSet.has t.disp.pending .groupBlind = true
  windows : s.Loses gone g → s.WindowsBut none → ∀ d : Desc,
    (s.stateOf ⟨g, d⟩ = .opened → t.stateOf ⟨g, d⟩ = .free) ∧
    (s.stateOf ⟨g, d⟩ = .settling →
      (t.stateOf ⟨g, d⟩ = .queued ∨ t.stateOf ⟨g, d⟩ = .evaluating ∨
        t.stateOf ⟨g, d⟩ = .free ∧ KindSet.has t.disp.pending .evaluationOverrun = true) ∧
      (s.ana.queue.length ≤ 8 → t.stateOf ⟨g, d⟩ ≠ .free))

theorem nodesLost_at (h : s.mgmt.commit = none) (gone : Node → Bool) (g : Group) : (s.nodesLost gone).LostAt s gone g := by
  obtain ⟨before, after, hall⟩ := List.append_of_mem (mem_all8 g)
  have hnodup : all8.Nodup := by decide
  have hlength : all8.length = 8 := rfl
  rw [hall] at hnodup hlength
  rw [List.length_append, List.length_cons] at hlength
  have hbefore : g ∉ before := fun hm => (List.disjoint_of_nodup_append hnodup hm (List.mem_cons_self ..))
  have hafter : g ∉ after := (List.nodup_cons.mp (List.nodup_append.mp hnodup).2.1).1
  have hfold : s.nodesLost gone = after.foldl (fun s g => s.loseReference gone g)
      ((before.foldl (fun s g => s.loseReference gone g) s).loseReference gone g) := by
    rw [nodesLost, hall, List.foldl_append, List.foldl_cons]
  have hfirst := foldl_lostApart gone before h
  rw [hfold]
  generalize before.foldl (fun s g => s.loseReference gone g) s = u at *
  have hu : u.mgmt.commit = none := (congrArg Management.commit hfirst.step.mgmt).trans h
  have hself := lostApart_loseReference hu gone g
  have hlast := foldl_lostApart gone after ((congrArg Management.commit hself.step.mgmt).trans hu)
  obtain ⟨hloses, hkeeps⟩ := loseReference_idle hu gone g
  obtain ⟨hstate, -⟩ := hfirst.apart g hbefore
  have hiff : u.Loses gone g ↔ s.Loses gone g := by
    unfold Loses
    rw [hstate, hfirst.step.mgmt]
  refine ⟨fun hn => ?_, fun hl => ?_, fun hl hok d => ?_⟩
  · rw [hkeeps (fun hl => hn (hiff.mp hl))] at hlast ⊢
    exact ((hlast.apart g hafter).1).trans hstate
  · rw [hloses (hiff.mpr hl)] at hlast ⊢
    obtain ⟨hblind, harm, hraised⟩ := u.blinded_self g
    exact ⟨(hlast.apart g hafter).1.trans hblind, (hlast.apart g hafter).2.trans harm, hlast.step.raised _ hraised⟩
  · obtain ⟨uok, ulength, umoved⟩ := hfirst.windows hok
    rw [hloses (hiff.mpr hl)] at hlast ⊢
    generalize after.foldl (fun s g => s.loseReference gone g) (u.blinded g) = t at hlast ⊢
    obtain ⟨bok, -, -, bopened, bsettling⟩ := blinded_moves uok g
    obtain ⟨-, -, tmoved⟩ := hlast.windows bok
    have humoved := umoved ⟨g, d⟩ hbefore
    have htmoved := tmoved ⟨g, d⟩ hafter
    have hsettled : s.stateOf ⟨g, d⟩ = .settling → t.stateOf ⟨g, d⟩ = .queued ∨ t.stateOf ⟨g, d⟩ = .evaluating ∨
        (16 ≤ u.ana.queue.length ∧ t.stateOf ⟨g, d⟩ = .free ∧ KindSet.has t.disp.pending .evaluationOverrun = true) :=
      fun hs => by
        have hus : u.stateOf ⟨g, d⟩ = .settling := (humoved.eq (by rw [hs]; decide)).trans hs
        obtain hq | he | ⟨hfull, hfree, hoverrun⟩ := bsettling ⟨g, d⟩ rfl hus
        · obtain hkept | ⟨-, htaken⟩ := htmoved
          · exact .inl (hkept.trans hq)
          · exact .inr (.inl htaken)
        · exact .inr (.inl ((htmoved.eq (by rw [he]; decide)).trans he))
        · exact .inr (.inr ⟨hfull, (htmoved.eq (by rw [hfree]; decide)).trans hfree, hlast.step.raised _ hoverrun⟩)
    refine ⟨fun ho => ?_, fun hs => ⟨(hsettled hs).imp_right (Or.imp_right And.right), fun hroom hfree => ?_⟩⟩
    · have huo : u.stateOf ⟨g, d⟩ = .opened := (humoved.eq (by rw [ho]; decide)).trans ho
      have hbo := bopened ⟨g, d⟩ rfl huo
      exact (htmoved.eq (by rw [hbo]; decide)).trans hbo
    · obtain hq | he | ⟨hfull, -, -⟩ := hsettled hs
      · rw [hfree] at hq
        cases hq
      · rw [hfree] at he
        cases he
      · omega

end State

/-- Settles O28: the loss of one node, group by group, and the end of the event with nothing pending. -/
theorem staleTimeoutLosesTheNode : Obligations.StaleTimeoutLosesTheNode := by
  intro s n hheld
  have hrun : exec (.staleTimeout n) s = .next (s.staleTimeout n) := by
    refine congrArg Host.Outcome.next ?_
    rw [State.running, s.isHeld_eq_false_iff.mpr hheld]
    rfl
  rw [hrun]
  refine ⟨fun hn => ?_, fun htracking hcalm => ?_⟩
  · exact congrArg Host.Outcome.next (if_neg (fun h => hn (beq_iff_eq.mp h)))
  · have hstale : s.staleTimeout n =
        (((s.setSource n s.sources[n].goStale).raise .sourceLost).nodesLost (fun m => m == n)).finish :=
      if_pos (beq_iff_eq.mpr htracking)
    have hat := fun g => State.nodesLost_at (s := (s.setSource n s.sources[n].goStale).raise .sourceLost) hcalm.1
      (fun m => m == n) g
    have hstep := State.windowStep_nodesLost (s := (s.setSource n s.sources[n].goStale).raise .sourceLost)
      (fun m => m == n) hcalm.1
    rw [hstale]
    generalize ((s.setSource n s.sources[n].goStale).raise .sourceLost).nodesLost (fun m => m == n) = t at *
    have htcalm : t.calm := hcalm.of_mgmt hstep.mgmt (congrArg Links.markReset hstep.links)
    rw [State.finish_of_calm htcalm]
    obtain ⟨jana, jchk, jlatches, jsnap, jsources, jfwd, jlinks, -⟩ := t.judgeHold_fields
    have jdisp : t.judgeHold.disp = t.disp := (congrArg State.disp t.judgeHold_frame :)
    have jpins : t.judgeHold.pins = t.pins := (congrArg State.pins t.judgeHold_frame :)
    have jgroup : ∀ g : Group, t.judgeHold.group g = t.group g := fun g => congrArg (fun a : Analysis => a.groups[g]) jana
    have hsources : ∀ m : Node, t.judgeHold.sources[m] = if m = n then s.sources[n].goStale else s.sources[m] := fun m => by
      rw [jsources, hstep.sources]
      show (s.sources.set n s.sources[n].goStale)[m] = _
      rw [Fin.getElem_fin, Vector.getElem_set]
      exact if_congr ⟨fun e => Fin.ext e.symm, fun e => by rw [e]⟩ rfl rfl
    have hloses : ∀ g, s.Loses (fun m => m == n) g ↔ s.mgmt.active.refNode g = some n ∧
        ((s.group g).state = .seeking ∨ (s.group g).state = .tracking) := fun g => by
      unfold State.Loses
      simp [and_comm]
    refine ⟨t.judgeHold, rfl, ?_, fun m hm => ?_, ?_, fun g hg => ?_, fun g href hstate => ?_, jlinks.trans hstep.links,
      jfwd.trans hstep.fwd, jchk.trans hstep.chk, jlatches.trans hstep.latches, jsnap.trans hstep.snap, jpins.trans hstep.pins⟩
    · rw [hsources, if_pos rfl]
      exact if_pos (beq_iff_eq.mpr htracking)
    · rw [hsources, if_neg hm]
    · rw [jdisp]
      exact hstep.raised _ (State.raised_raise_self _ _)
    · rw [jgroup]
      refine (hat g).kept (fun hl => ?_)
      obtain ⟨href, hstate⟩ := (hloses g).mp hl
      obtain hne | ⟨hseeking, htracks⟩ := hg
      · exact hne href
      · exact hstate.elim hseeking htracks
    · obtain ⟨hblind, harm, hraised⟩ := (hat g).lost ((hloses g).mpr ⟨href, hstate⟩)
      rw [jgroup, jdisp]
      refine ⟨hblind, harm, hraised, fun hok d => ?_⟩
      exact (hat g).windows ((hloses g).mpr ⟨href, hstate⟩) (((State.windowsOk_iff s).mp hok).of_ana rfl) d

end Sys2Proof.Machine
end

section
/-! The measures of a window (R80 to R86). -/

namespace Sys2Proof.Machine

/-! ## Filling (R81) -/

theorem fillFrom_before_first {p : Int} : ∀ {l : List (Option Int)} {i : Nat}, i < l.length →
    (∀ k ≤ i, l[k]? = some none) → (fillFrom p l)[i]? = some p
  | x :: rest, 0, _, h => by
    obtain rfl : x = none := Option.some.inj (h 0 le_rfl)
    rfl
  | x :: rest, i + 1, hi, h => by
    obtain rfl : x = none := Option.some.inj (h 0 (Nat.zero_le _))
    exact fillFrom_before_first (l := rest) (Nat.lt_of_succ_lt_succ hi) (fun k hk => h (k + 1) (Nat.succ_le_succ hk))

/-- A missing tick takes the nearest earlier present sample, a present one its own (R81). -/
theorem fillFrom_nearest {v : Int} : ∀ {p : Int} {l : List (Option Int)} {j i : Nat}, i < l.length → j ≤ i →
    l[j]? = some (some v) → (∀ k, j < k → k ≤ i → l[k]? = some none) → (fillFrom p l)[i]? = some v
  | _, x :: rest, 0, 0, _, _, hv, _ => by
    obtain rfl : x = some v := Option.some.inj hv
    rfl
  | _, x :: rest, 0, i + 1, hi, _, hv, h => by
    obtain rfl : x = some v := Option.some.inj hv
    exact fillFrom_before_first (Nat.lt_of_succ_lt_succ hi) (fun k hk => h (k + 1) (Nat.succ_pos k) (Nat.succ_le_succ hk))
  | _, x :: rest, j + 1, i + 1, hi, hj, hv, h => by
    have hrest : ∀ q : Int, (fillFrom q rest)[i]? = some v := fun q =>
      fillFrom_nearest (Nat.lt_of_succ_lt_succ hi) (Nat.le_of_succ_le_succ hj) hv
        (fun k hk hki => h (k + 1) (Nat.succ_lt_succ hk) (Nat.succ_le_succ hki))
    cases x with
    | none => exact hrest _
    | some y => exact hrest _

theorem firstPresent_eq_some {v : Int} : ∀ {l : List (Option Int)} {j : Nat}, l[j]? = some (some v) →
    (∀ k < j, l[k]? = some none) → firstPresent l = some v
  | x :: rest, 0, hv, _ => by
    obtain rfl : x = some v := Option.some.inj hv
    rfl
  | x :: rest, j + 1, hv, h => by
    obtain rfl : x = none := Option.some.inj (h 0 (Nat.succ_pos j))
    exact firstPresent_eq_some (l := rest) hv (fun k hk => h (k + 1) (Nat.succ_lt_succ hk))

/-- The cells of the ticks of a window. -/
def windowCells (cells : Cells) (start : Tick) (n : Nat) : List (Option Int) :=
  (List.range n).map (fun i => present? cells (start + BitVec.ofNat 16 i))

theorem getElem?_windowCells (cells : Cells) (start : Tick) {n i : Nat} (hi : i < n) :
    (windowCells cells start n)[i]? = some (present? cells (start + BitVec.ofNat 16 i)) := by
  rw [windowCells, List.getElem?_map, List.getElem?_range hi, Option.map_some]

theorem length_windowCells (cells : Cells) (start : Tick) (n : Nat) : (windowCells cells start n).length = n := by
  rw [windowCells, List.length_map, List.length_range]

theorem filled_eq (cells : Cells) (start : Tick) (n : Nat) : filled cells start n =
    (firstPresent (windowCells cells start n)).map (fun v => fillFrom v (windowCells cells start n)) := rfl

theorem filled_eq_none_iff (cells : Cells) (start : Tick) (n : Nat) : filled cells start n = none ↔
    ∀ i : Nat, i < n → present? cells (start + BitVec.ofNat 16 i) = none := by
  rw [filled_eq, Option.map_eq_none_iff, firstPresent_eq_none]
  simp [windowCells]

theorem filled_spec {cells : Cells} {start : Tick} {n : Nat} {xs : List Int} (h : filled cells start n = some xs) :
    xs.length = n ∧ ∀ i : Nat, i < n →
      (∀ v : Int, present? cells (start + BitVec.ofNat 16 i) = some v → xs[i]? = some v) ∧
      (∀ (j : Nat) (v : Int), j < i → present? cells (start + BitVec.ofNat 16 j) = some v →
        (∀ k : Nat, j < k → k ≤ i → present? cells (start + BitVec.ofNat 16 k) = none) → xs[i]? = some v) ∧
      ∀ (j : Nat) (v : Int), i < j → j < n → present? cells (start + BitVec.ofNat 16 j) = some v →
        (∀ k : Nat, k < j → present? cells (start + BitVec.ofNat 16 k) = none) → xs[i]? = some v := by
  have hlength := length_windowCells cells start n
  have hat : ∀ i, i < n → ∀ o, present? cells (start + BitVec.ofNat 16 i) = o →
      (windowCells cells start n)[i]? = some o := fun i hi o ho => (getElem?_windowCells cells start hi).trans (by rw [ho])
  rw [filled_eq] at h
  generalize windowCells cells start n = l at h hlength hat
  obtain ⟨p, hp, rfl⟩ := Option.map_eq_some_iff.mp h
  refine ⟨(length_fillFrom p l).trans hlength, fun i hi => ⟨fun v hv => ?_, fun j v hji hv hgap => ?_,
    fun j v hij hj hv hgap => ?_⟩⟩
  · exact fillFrom_nearest (hlength.symm ▸ hi) le_rfl (hat i hi _ hv) (fun k hk hki => absurd hk (Nat.not_lt.mpr hki))
  · exact fillFrom_nearest (hlength.symm ▸ hi) hji.le (hat j (by omega) _ hv)
      (fun k hk hki => hat k (by omega) _ (hgap k hk hki))
  · obtain rfl : v = p := Option.some.inj
      ((firstPresent_eq_some (hat j hj _ hv) (fun k hk => hat k (by omega) _ (hgap k hk))).symm.trans hp)
    exact fillFrom_before_first (hlength.symm ▸ hi) (fun k hk => hat k (by omega) _ (hgap k (by omega)))

/-! ## Plain metrics (R82) -/

theorem abs_sum_le {B : Int} : ∀ {xs : List Int}, (∀ x ∈ xs, -B ≤ x ∧ x ≤ B) →
    -(xs.length * B) ≤ xs.sum ∧ xs.sum ≤ xs.length * B
  | [], _ => by simp
  | x :: xs, h => by
    obtain ⟨hx, hxs⟩ := List.forall_mem_cons.mp h
    obtain ⟨hlo, hhi⟩ := abs_sum_le hxs
    rw [List.length_cons, List.sum_cons, Nat.cast_succ]
    constructor <;> nlinarith

/-- The MEAN of samples within full scale is within it, so nothing is saturated (R80, R82). -/
theorem meanOf_eq {xs : List Int} (h : ∀ x ∈ xs, -32767 ≤ x ∧ x ≤ 32767) :
    meanOf xs = Int.tdiv xs.sum xs.length := by
  obtain ⟨hlo, hhi⟩ := abs_sum_le h
  rw [meanOf, sumInt_eq_sum]
  have habs : (Int.tdiv xs.sum xs.length).natAbs ≤ 32767 := by
    rw [Int.natAbs_tdiv, Int.natAbs_natCast]
    refine Nat.div_le_of_le_mul ?_
    zify
    exact abs_le.mpr ⟨hlo, hhi⟩
  exact clampFull_of_mem (by omega) (by omega)

theorem sq_sum_le (xs : List Int) : xs.sum * xs.sum ≤ xs.length * (xs.map (fun x => x * x)).sum := by
  have h := sq_sum_le_card_mul_sum_sq (s := Finset.univ) (f := fun i : Fin xs.length => xs[i])
  have hsum : ∀ f : Int → Int, (xs.map f).sum = ∑ i : Fin xs.length, f xs[i] := fun f => by
    rw [← List.sum_ofFn]
    exact congrArg List.sum ((congrArg (List.map f) (List.ofFn_getElem (xs := xs)).symm).trans List.map_ofFn)
  have hid := hsum id
  rw [List.map_id] at hid
  rw [hid, hsum (fun x => x * x), ← pow_two]
  simpa [pow_two] using h

theorem sum_sq_le {B : Int} (hB : 0 ≤ B) : ∀ {xs : List Int}, (∀ x ∈ xs, -B ≤ x ∧ x ≤ B) →
    0 ≤ (xs.map (fun x => x * x)).sum ∧ (xs.map (fun x => x * x)).sum ≤ xs.length * (B * B)
  | [], _ => by simp
  | x :: xs, h => by
    obtain ⟨⟨hlo, hhi⟩, hxs⟩ := List.forall_mem_cons.mp h
    obtain ⟨h0, h1⟩ := sum_sq_le hB hxs
    rw [List.map_cons, List.length_cons, List.sum_cons, Nat.cast_succ]
    have hx : 0 ≤ x * x := mul_self_nonneg x
    have hxB : x * x ≤ B * B := by nlinarith
    constructor <;> nlinarith

/-- A root rounded toward zero and then divided, rounded toward zero. -/
theorem isqrt_div_spec {x d : Nat} (hx : x < 2 ^ 64) (hd : 0 < d) :
    (isqrt x / d * d) ^ 2 ≤ x ∧ x < ((isqrt x / d + 1) * d) ^ 2 := by
  obtain ⟨hlo, hhi⟩ := isqrt_spec x hx
  have hdiv : isqrt x / d * d ≤ isqrt x := Nat.div_mul_le_self _ _
  have hmod : isqrt x + 1 ≤ (isqrt x / d + 1) * d := by
    have := Nat.lt_div_mul_add (a := isqrt x) hd
    rw [Nat.add_mul, Nat.one_mul]
    omega
  exact ⟨(Nat.pow_le_pow_left hdiv 2).trans hlo, hhi.trans_le (Nat.pow_le_pow_left hmod 2)⟩

theorem rmsOf_spec {xs : List Int} (hne : xs ≠ []) (hlength : xs.length ≤ 192) (h : ∀ x ∈ xs, -32767 ≤ x ∧ x ≤ 32767) :
    let n : Int := xs.length
    let v := n * (xs.map (fun x => x * x)).sum - xs.sum * xs.sum
    ((rmsOf xs : Int) * n) ^ 2 ≤ v ∧ v < (((rmsOf xs : Int) + 1) * n) ^ 2 := by
  intro n v
  have hpos : 0 < xs.length := List.length_pos_iff.mpr hne
  obtain ⟨h0, h1⟩ := sum_sq_le (by norm_num) h
  have hv : 0 ≤ v := sub_nonneg.mpr (sq_sum_le xs)
  have hbound : v < 2 ^ 64 := by
    have hn : n ≤ 192 := Int.ofNat_le.mpr hlength
    have hn0 : 0 ≤ n := Int.natCast_nonneg _
    have hsq : (xs.map (fun x => x * x)).sum ≤ 192 * (32767 * 32767) := h1.trans (by nlinarith)
    have hprod : n * (xs.map (fun x => x * x)).sum ≤ 192 * (192 * (32767 * 32767)) := by nlinarith
    have := mul_self_nonneg xs.sum
    show n * _ - xs.sum * xs.sum < 2 ^ 64
    omega
  obtain ⟨hlo, hhi⟩ := isqrt_div_spec (x := v.toNat) (d := xs.length) (by omega) hpos
  have hrms : rmsOf xs = isqrt v.toNat / xs.length := by
    rw [rmsOf, sumInt_eq_sum, sumInt_eq_sum]
  rw [hrms]
  have hcast : ((v.toNat : Nat) : Int) = v := Int.toNat_of_nonneg hv
  constructor
  · rw [← hcast]
    show ((isqrt v.toNat / xs.length : Nat) * (xs.length : Int)) ^ 2 ≤ ((v.toNat : Nat) : Int)
    exact_mod_cast hlo
  · rw [← hcast]
    show ((v.toNat : Nat) : Int) < (((isqrt v.toNat / xs.length : Nat) + 1) * (xs.length : Int)) ^ 2
    exact_mod_cast hhi

/-- An operation that chooses the further of two values in some order leaves the furthest of a list. -/
theorem foldl_extreme {op : Int → Int → Int} {r : Int → Int → Prop} (hrefl : ∀ a, r a a)
    (htrans : ∀ {a b c}, r a b → r b c → r a c) (hop : ∀ a b, (op a b = a ∨ op a b = b) ∧ r a (op a b) ∧ r b (op a b)) :
    ∀ (xs : List Int) (a : Int), xs.foldl op a ∈ a :: xs ∧ ∀ x ∈ a :: xs, r x (xs.foldl op a)
  | [], a => ⟨List.mem_singleton.mpr rfl, fun x hx => by rw [List.mem_singleton.mp hx]; exact hrefl a⟩
  | y :: ys, a => by
    obtain ⟨hmem, hfar⟩ := foldl_extreme hrefl htrans hop ys (op a y)
    obtain ⟨hchoice, ha, hy⟩ := hop a y
    have hfirst := hfar _ (List.mem_cons_self ..)
    refine ⟨?_, fun x hx => ?_⟩
    · rw [List.foldl_cons]
      obtain h | h := List.mem_cons.mp hmem
      · rw [h]
        obtain h | h := hchoice <;> rw [h] <;> simp
      · exact List.mem_cons_of_mem _ (List.mem_cons_of_mem _ h)
    · obtain rfl | hx := List.mem_cons.mp hx
      · exact htrans ha hfirst
      · obtain rfl | hx := List.mem_cons.mp hx
        · exact htrans hy hfirst
        · exact hfar x (List.mem_cons_of_mem _ hx)

theorem peakToPeakOf_spec {xs : List Int} (hne : xs ≠ []) :
    ∃ a ∈ xs, ∃ b ∈ xs, (∀ x ∈ xs, b ≤ x ∧ x ≤ a) ∧ (peakToPeakOf xs : Int) = a - b := by
  obtain ⟨y, ys, rfl⟩ := List.exists_cons_of_ne_nil hne
  obtain ⟨hmax, hle⟩ := foldl_extreme (op := max) (r := (· ≤ ·)) le_refl le_trans
    (fun a b => ⟨max_choice a b, le_max_left a b, le_max_right a b⟩) ys y
  obtain ⟨hmin, hge⟩ := foldl_extreme (op := min) (r := (· ≥ ·)) le_refl (fun h k => le_trans k h)
    (fun a b => ⟨min_choice a b, min_le_left a b, min_le_right a b⟩) ys y
  exact ⟨_, hmax, _, hmin, fun x hx => ⟨hge x hx, hle x hx⟩, Int.toNat_of_nonneg (sub_nonneg.mpr (hle _ hmin))⟩

/-! ## The phases of a group (R85) -/

/-- What is searched for lies below its bound. -/
theorem searchMax_lt (p : Nat → Bool) : ∀ bits acc : Nat, searchMax p bits acc < acc + 2 ^ bits
  | 0, acc => by
    rw [searchMax]
    exact Nat.lt_succ_self acc
  | b + 1, acc => by
    have h1 := searchMax_lt p b (acc + 2 ^ b)
    have h2 := searchMax_lt p b acc
    rw [searchMax, Nat.pow_succ]
    split <;> omega

theorem amplitudeOf_lt (h : Nat) (xs : List Int) : amplitudeOf h xs < 2 ^ 17 := by
  have := searchMax_lt (amplitudeAtLeast h xs (normAt lowPrecision h xs)) 17 0
  rwa [Nat.zero_add] at this

namespace WindowView

variable {w : WindowView} {c : Chan} {k : ChanKind} {order : Nat} {xs : List Int}

/-- A channel has a kind only when it is mapped, so it stands among the channels of that kind. -/
theorem mem_channelsOfKind (b : Bank) (g : Group) (k : ChanKind) (d : Chan) : d ∈ b.channelsOfKind g k ↔ b.kindOf g d = some k := by
  rw [Bank.channelsOfKind, List.mem_filter, beq_iff_eq, Bank.channels, List.mem_filter, Bank.mapped]
  refine and_iff_right_of_imp (fun h => ⟨mem_all8 d, ?_⟩)
  rw [Bank.kindOf, Option.map_eq_some_iff] at h
  obtain ⟨e, he, -⟩ := h
  rw [he]
  rfl

theorem phase_cases (w : WindowView) (k : ChanKind) :
    (w.phase k = none ∧ w.bank.channelsOfKind w.group k = []) ∨
      ∃ d ∈ w.bank.channelsOfKind w.group k, w.phase k = some d := by
  unfold phase
  split
  next h => exact .inl ⟨rfl, h⟩
  next d h => exact .inr ⟨d, by rw [h]; exact List.mem_singleton.mpr rfl, rfl⟩
  next hnil hone =>
    generalize hl : w.bank.channelsOfKind w.group k = l at *
    have hpos : 0 < l.length := List.length_pos_iff.mpr hnil
    have hlt := Nat.mod_lt (Config.phasePick w.group.val k.code.toNat l.length) hpos
    exact .inr ⟨_, List.getElem_mem hlt, List.getElem?_eq_getElem hlt⟩

theorem phase_spec (w : WindowView) (k : ChanKind) :
    (w.phase k = none ↔ ∀ d : Chan, w.bank.kindOf w.group d ≠ some k) ∧
      ∀ d : Chan, w.phase k = some d → w.bank.kindOf w.group d = some k := by
  obtain ⟨hnone, hnil⟩ | ⟨d, hd, hsome⟩ := w.phase_cases k
  · refine ⟨⟨fun _ d hd => ?_, fun _ => hnone⟩, fun d hd => ?_⟩
    · have := (mem_channelsOfKind _ _ _ _).mpr hd
      rw [hnil] at this
      exact List.not_mem_nil this
    · rw [hnone] at hd
      cases hd
  · have hkind := (mem_channelsOfKind _ _ _ _).mp hd
    refine ⟨⟨fun h => ?_, fun h => absurd hkind (h d)⟩, fun e he => ?_⟩
    · rw [hsome] at h
      cases h
    · rw [hsome] at he
      exact Option.some.inj he ▸ hkind

theorem sat_eq (v : Nat) : sat v = ((min 65535 v : Nat) : Int) := rfl

theorem fundamental_eq (w : WindowView) (k : ChanKind) :
    w.fundamental k = (w.phase k).bind (fun d => (w.samples d).map (amplitudeOf 1)) := by
  rw [fundamental]
  cases w.phase k with
  | none => rfl
  | some d =>
    show (w.samples d).bind (fun xs => some (amplitudeOf 1 xs)) = (w.samples d).map (amplitudeOf 1)
    cases w.samples d <;> rfl

/-- A phase with a fundamental is mapped (R85, R86). -/
theorem hasKinds_of_fundamental {ks : List ChanKind} (h : ∀ p ∈ ks, w.fundamental p ≠ none) :
    w.bank.hasKinds w.group ks = true := by
  rw [Bank.hasKinds, List.all_eq_true]
  intro p hp
  rw [Bool.not_eq_true', List.isEmpty_eq_false_iff]
  intro hnil
  obtain ⟨hnone, -⟩ | ⟨d, hd, -⟩ := w.phase_cases p
  · exact h p hp (by rw [fundamental_eq, hnone]; rfl)
  · rw [hnil] at hd
    exact List.not_mem_nil hd

theorem fundamentals_cons (w : WindowView) (p : ChanKind) (ks : List ChanKind) : w.fundamentals (p :: ks) =
    (w.fundamental p).bind (fun a => (w.fundamentals ks).bind (fun as => some (a :: as))) := rfl

theorem fundamentals_eq_some_iff : ∀ {ks : List ChanKind} {as : List Nat},
    w.fundamentals ks = some as ↔ List.Forall₂ (fun p a => w.fundamental p = some a) ks as
  | [], as => by
    rw [fundamentals, List.forall₂_nil_left_iff, Option.some.injEq, eq_comm]
  | p :: ks, as => by
    rw [fundamentals_cons]
    cases hp : w.fundamental p with
    | none =>
      refine ⟨fun h => (by cases h), fun h => ?_⟩
      cases h with
      | cons h _ => exact absurd (hp.symm.trans h) (by simp)
    | some a =>
      cases hks : w.fundamentals ks with
      | none =>
        refine ⟨fun h => (by cases h), fun h => ?_⟩
        cases h with
        | cons _ h => exact absurd (hks.symm.trans (fundamentals_eq_some_iff.mpr h)) (by simp)
      | some rest =>
        show some (a :: rest) = some as ↔ _
        rw [Option.some.injEq]
        constructor
        · rintro rfl
          exact .cons hp (fundamentals_eq_some_iff.mp hks)
        · intro h
          cases h with
          | cons h hrest =>
            rw [Option.some.inj (hp.symm.trans h),
              Option.some.inj (hks.symm.trans (fundamentals_eq_some_iff.mpr hrest))]

theorem fundamentals_eq_none : ∀ {ks : List ChanKind}, (∃ p ∈ ks, w.fundamental p = none) → w.fundamentals ks = none
  | p :: ks, h => by
    rw [fundamentals_cons]
    obtain ⟨x, hx, hnone⟩ := h
    obtain rfl | hx := List.mem_cons.mp hx
    · rw [hnone]
      rfl
    · rw [fundamentals_eq_none ⟨x, hx, hnone⟩]
      cases w.fundamental p <;> rfl

theorem fundamentals_eq_none_of_unmapped {ks : List ChanKind} (h : w.bank.hasKinds w.group ks = false) :
    w.fundamentals ks = none := by
  refine fundamentals_eq_none (by_contra fun hn => ?_)
  rw [hasKinds_of_fundamental (fun p hp hnone => hn ⟨p, hp, hnone⟩)] at h
  cases h

/-! ## The measures of a mapped channel with samples (R82 to R86) -/

theorem measure_of_unmapped {r : MeasureRef} (h : w.bank.kindOf w.group r.chan = none ∨ w.samples r.chan = none) :
    w.measure r = none := by
  rw [measure]
  obtain h | h := h
  · rw [if_pos (by rw [Bank.suits, h]; rfl)]
  · rw [h]
    exact ite_self _

theorem measure_unsuited {r : MeasureRef} (h : w.bank.suits w.group r = false) : w.measure r = none := by
  rw [measure, h]
  rfl

section
variable (hk : w.bank.kindOf w.group c = some k) (hx : w.samples c = some xs)
include hk hx

theorem measure_mean : w.measure ⟨c, .mean, order⟩ = some (meanOf xs) := by
  rw [measure, Bank.suits, hk, hx]
  rfl

theorem measure_rms : w.measure ⟨c, .rms, order⟩ = some (sat (rmsOf xs)) := by
  rw [measure, Bank.suits, hk, hx]
  rfl

theorem measure_peakToPeak : w.measure ⟨c, .peakToPeak, order⟩ = some (sat (peakToPeakOf xs)) := by
  rw [measure, Bank.suits, hk, hx]
  rfl

theorem measure_amplitude : w.measure ⟨c, .amplitude, order⟩ =
    if order ∈ w.bank.plans[w.group].orders ∧ 2 * order < w.len then some (sat (amplitudeOf order xs)) else none := by
  have hsuits : w.bank.suits w.group ⟨c, .amplitude, order⟩ = w.bank.plans[w.group].orders.contains order := by
    rw [Bank.suits, hk]
  have horders : w.orders.contains order = true ↔ order ∈ w.bank.plans[w.group].orders ∧ 2 * order < w.len := by
    rw [List.contains_iff_mem, orders, List.mem_filter, decide_eq_true_eq]
  rw [measure, hsuits, hx]
  by_cases hin : order ∈ w.bank.plans[w.group].orders
  · rw [List.contains_iff_mem.mpr hin]
    show (if w.orders.contains order = true then some (sat (amplitudeOf order xs)) else none) = _
    exact if_congr horders rfl rfl
  · rw [if_pos (by rw [Bool.not_eq_true', ← Bool.not_eq_true, List.contains_iff_mem]; exact hin), if_neg (fun h => hin h.1)]

theorem measure_rippleRatio : w.measure ⟨c, .rippleRatio, order⟩ = if k = .dcVoltage then rippleOf xs else none := by
  have hsuits : w.bank.suits w.group ⟨c, .rippleRatio, order⟩ = (k == .dcVoltage) := by
    rw [Bank.suits, hk]
  rw [measure, hsuits, hx]
  by_cases hdc : k = .dcVoltage
  · rw [if_pos hdc, hdc]
    rfl
  · rw [if_neg hdc, beq_false_of_ne hdc]
    rfl

theorem measure_thd : w.measure ⟨c, .thd, order⟩ = if k.acCurrent = true then thdOf w.orders xs else none := by
  have hsuits : w.bank.suits w.group ⟨c, .thd, order⟩ = (k.acCurrent && w.bank.plans[w.group].orders.contains 1) := by
    rw [Bank.suits, hk]
  rw [measure, hsuits, hx]
  cases k.acCurrent with
  | false => rfl
  | true =>
    cases hone : w.bank.plans[w.group].orders.contains 1 with
    | true => rfl
    | false =>
      have hnot : w.orders.contains 1 = false := by
        rw [← Bool.not_eq_true, List.contains_iff_mem] at hone ⊢
        exact fun h => hone (List.mem_filter.mp h).1
      rw [if_pos rfl, thdOf, hnot]
      rfl

theorem measure_phaseImbalance : w.measure ⟨c, .phaseImbalance, order⟩ =
    if k.acCurrent = true then (w.fundamentals k.bridge).bind imbalanceOf else none := by
  have hsuits : w.bank.suits w.group ⟨c, .phaseImbalance, order⟩ = (k.acCurrent && w.bank.hasKinds w.group k.bridge) := by
    rw [Bank.suits, hk]
  rw [measure, hsuits, hx, hk]
  cases k.acCurrent with
  | false => rfl
  | true =>
    cases hkinds : w.bank.hasKinds w.group k.bridge with
    | true => rfl
    | false =>
      rw [fundamentals_eq_none_of_unmapped hkinds]
      rfl

theorem measure_bridgeBalance : w.measure ⟨c, .bridgeBalance, order⟩ =
    if k.acCurrent = true then (w.fundamentals bridgeA).bind (fun as => (w.fundamentals bridgeB).bind
      (fun bs => balanceOf (sumNat as) (sumNat bs))) else none := by
  have hsuits : w.bank.suits w.group ⟨c, .bridgeBalance, order⟩ =
      (k.acCurrent && w.bank.hasKinds w.group (bridgeA ++ bridgeB)) := by
    rw [Bank.suits, hk]
  rw [measure, hsuits, hx]
  cases k.acCurrent with
  | false => rfl
  | true =>
    cases hkinds : w.bank.hasKinds w.group (bridgeA ++ bridgeB) with
    | true => rfl
    | false =>
      have hboth : w.bank.hasKinds w.group bridgeA = false ∨ w.bank.hasKinds w.group bridgeB = false := by
        rw [Bank.hasKinds, List.all_append, Bool.and_eq_false_iff] at hkinds
        exact hkinds
      rw [if_pos rfl]
      obtain h | h := hboth
      · rw [fundamentals_eq_none_of_unmapped h]
        rfl
      · rw [fundamentals_eq_none_of_unmapped h]
        cases w.fundamentals bridgeA <;> rfl

end

/-! ## The ratios (R84, R85) -/

theorem one_mem_orders : 1 ∈ w.orders ↔ 1 ∈ w.bank.plans[w.group].orders ∧ 2 < w.len := by
  rw [orders, List.mem_filter, decide_eq_true_eq]

theorem thdOf_eq_none {os : List Nat} (h : 1 ∉ os ∨ amplitudeOf 1 xs = 0) : thdOf os xs = none := by
  refine if_pos ?_
  rw [Bool.or_eq_true, Bool.not_eq_true', ← Bool.not_eq_true, List.contains_iff_mem, beq_iff_eq]
  exact h

theorem thdOf_eq_some {os : List Nat} (hone : 1 ∈ os) (hamp : amplitudeOf 1 xs ≠ 0) : thdOf os xs =
    some (sat (isqrt (1000000 * ((os.filter (fun h => decide (2 ≤ h))).map (fun h => amplitudeOf h xs ^ 2)).sum) /
      amplitudeOf 1 xs)) := by
  refine (if_neg ?_).trans (by rw [sumNat_eq_sum])
  rw [Bool.or_eq_true, Bool.not_eq_true', ← Bool.not_eq_true, List.contains_iff_mem, beq_iff_eq]
  exact fun h => h.elim (fun hn => hn hone) hamp

theorem sum_amplitudes_lt (xs : List Int) {os : List Nat} (hlength : os.length ≤ 16) :
    1000000 * (os.map (fun h => amplitudeOf h xs ^ 2)).sum < 2 ^ 64 := by
  have hsum : (os.map (fun h => amplitudeOf h xs ^ 2)).sum ≤ (os.map (fun h => amplitudeOf h xs ^ 2)).length • (2 ^ 17) ^ 2 := by
    refine List.sum_le_card_nsmul _ _ (fun x hx => ?_)
    obtain ⟨h, -, rfl⟩ := List.mem_map.mp hx
    exact Nat.pow_le_pow_left (amplitudeOf_lt h xs).le 2
  rw [List.length_map, smul_eq_mul] at hsum
  have hbound : os.length * (2 ^ 17) ^ 2 ≤ 16 * (2 ^ 17) ^ 2 := Nat.mul_le_mul_right _ hlength
  omega

theorem imbalanceOf_three (a b d : Nat) :
    (a + b + d = 0 → imbalanceOf [a, b, d] = none) ∧
      (a + b + d ≠ 0 → imbalanceOf [a, b, d] = some (sat (1000 *
        max (3 * (a : Int) - (a + b + d : Nat)).natAbs
          (max (3 * (b : Int) - (a + b + d : Nat)).natAbs (3 * (d : Int) - (a + b + d : Nat)).natAbs) / (a + b + d)))) := by
  have htotal : sumNat [a, b, d] = a + b + d := by
    rw [sumNat_eq_sum]
    simp [Nat.add_assoc]
  rw [imbalanceOf, htotal]
  refine ⟨fun h => if_pos h, fun h => (if_neg h).trans ?_⟩
  simp [max_assoc]

theorem balanceOf_six (a1 a2 a3 b1 b2 b3 : Nat) : balanceOf (sumNat [a1, a2, a3]) (sumNat [b1, b2, b3]) =
    balanceOf (a1 + a2 + a3) (b1 + b2 + b3) := by
  rw [sumNat_eq_sum, sumNat_eq_sum]
  simp [Nat.add_assoc]

theorem measure_phaseImbalance_phases (hk : w.bank.kindOf w.group c = some k) (hx : w.samples c = some xs)
    {k1 k2 k3 : ChanKind} (hphases : (k.acCurrent = true ∧ k.bridge = [k1, k2, k3])) :
    (w.fundamental k1 = none ∨ w.fundamental k2 = none ∨ w.fundamental k3 = none →
      w.measure ⟨c, .phaseImbalance, order⟩ = none) ∧
    ∀ a b d : Nat, w.fundamental k1 = some a → w.fundamental k2 = some b → w.fundamental k3 = some d →
      w.measure ⟨c, .phaseImbalance, order⟩ = imbalanceOf [a, b, d] := by
  rw [measure_phaseImbalance hk hx, if_pos hphases.1, hphases.2]
  refine ⟨fun h => ?_, fun a b d ha hb hd => ?_⟩
  · rw [fundamentals_eq_none (by simpa using h)]
    rfl
  · rw [fundamentals_eq_some_iff.mpr (.cons ha (.cons hb (.cons hd .nil)))]
    rfl

theorem measure_bridgeBalance_phases (hk : w.bank.kindOf w.group c = some k) (hx : w.samples c = some xs)
    (hac : k.acCurrent = true) :
    ((∃ p ∈ [ChanKind.acA1, .acA2, .acA3, .acB1, .acB2, .acB3], w.fundamental p = none) →
      w.measure ⟨c, .bridgeBalance, order⟩ = none) ∧
    ∀ a1 a2 a3 b1 b2 b3 : Nat, w.fundamental .acA1 = some a1 → w.fundamental .acA2 = some a2 →
      w.fundamental .acA3 = some a3 → w.fundamental .acB1 = some b1 → w.fundamental .acB2 = some b2 →
      w.fundamental .acB3 = some b3 →
      w.measure ⟨c, .bridgeBalance, order⟩ = balanceOf (a1 + a2 + a3) (b1 + b2 + b3) := by
  rw [measure_bridgeBalance hk hx, if_pos hac]
  refine ⟨fun ⟨p, hp, hnone⟩ => ?_, fun a1 a2 a3 b1 b2 b3 h1 h2 h3 h4 h5 h6 => ?_⟩
  · obtain hA | hB := List.mem_append.mp (show p ∈ bridgeA ++ bridgeB from hp)
    · rw [fundamentals_eq_none ⟨p, hA, hnone⟩]
      rfl
    · rw [fundamentals_eq_none ⟨p, hB, hnone⟩]
      cases w.fundamentals bridgeA <;> rfl
  · have hA : w.fundamentals bridgeA = some [a1, a2, a3] := fundamentals_eq_some_iff.mpr (.cons h1 (.cons h2 (.cons h3 .nil)))
    have hB : w.fundamentals bridgeB = some [b1, b2, b3] := fundamentals_eq_some_iff.mpr (.cons h4 (.cons h5 (.cons h6 .nil)))
    rw [hA, hB]
    exact balanceOf_six a1 a2 a3 b1 b2 b3

end WindowView

/-- Settles O32: the filling, the plain metrics, and the measures metric by metric. -/
theorem measuresOfWindow : Obligations.MeasuresOfWindow := by
  refine ⟨fun cells start n => ⟨filled_eq_none_iff cells start n, fun xs h => filled_spec h⟩, fun xs hne hlength h => ?_, ?_⟩
  · exact ⟨meanOf_eq h, rmsOf_spec hne hlength h, peakToPeakOf_spec hne⟩
  · intro w c order orders kind samples measure value onA onB fundamental
    have hfundamental : ∀ k : ChanKind, fundamental k = w.fundamental k := fun k => (w.fundamental_eq k).symm
    refine ⟨w.phase_spec, fun h m => WindowView.measure_of_unmapped h, fun k xs hk hx => ?_⟩
    have hac : onA k ∨ onB k ↔ k.acCurrent = true := (Bank.acCurrent_iff k).symm
    have hphases : ∀ k1 k2 k3 : ChanKind,
        (onA k ∧ k1 = .acA1 ∧ k2 = .acA2 ∧ k3 = .acA3) ∨ (onB k ∧ k1 = .acB1 ∧ k2 = .acB2 ∧ k3 = .acB3) →
        k.acCurrent = true ∧ k.bridge = [k1, k2, k3] := by
      rintro k1 k2 k3 (⟨h, rfl, rfl, rfl⟩ | ⟨h, rfl, rfl, rfl⟩)
      · obtain rfl | rfl | rfl := h <;> decide
      · obtain rfl | rfl | rfl := h <;> decide
    simp only [hfundamental]
    refine ⟨WindowView.measure_mean hk hx, WindowView.measure_rms hk hx, WindowView.measure_peakToPeak hk hx,
      fun hin hlen => ?_, fun hout => ?_, fun hdc hmean => ?_, fun hout => ?_, fun hkind hone hlen hamp hcount => ?_, fun hout => ?_,
      fun k1 k2 k3 hk3 => ?_, fun hnot => ?_, fun hkind => ?_⟩
    · exact (WindowView.measure_amplitude hk hx).trans (if_pos ⟨hin, hlen⟩)
    · exact (WindowView.measure_amplitude hk hx).trans (if_neg (fun h => hout.elim (fun hn => hn h.1) (fun hn => by omega)))
    · exact (WindowView.measure_rippleRatio hk hx).trans ((if_pos hdc).trans (if_neg (Nat.not_lt.mpr hmean)))
    · refine (WindowView.measure_rippleRatio hk hx).trans ?_
      obtain hne | hsmall := hout
      · exact if_neg hne
      · rw [rippleOf, if_pos hsmall, ite_self]
    · have hsum : (w.orders.filter (fun h => decide (2 ≤ h))) = orders.filter (fun h => 2 ≤ h ∧ 2 * h < w.len) := by
        rw [WindowView.orders, List.filter_filter]
        exact List.filter_congr (fun h _ => (Bool.decide_and _ _).symm)
      have hvalue := (WindowView.measure_thd (order := order) hk hx).trans ((if_pos (hac.mp hkind)).trans
        (WindowView.thdOf_eq_some (WindowView.one_mem_orders.mpr ⟨hone, hlen⟩) hamp))
      rw [hsum] at hvalue
      exact ⟨_, hvalue, isqrt_div_spec (WindowView.sum_amplitudes_lt xs ((List.length_filter_le _ _).trans hcount))
        (Nat.pos_of_ne_zero hamp)⟩
    · refine (WindowView.measure_thd hk hx).trans ?_
      by_cases hkind : k.acCurrent = true
      · refine (if_pos hkind).trans (WindowView.thdOf_eq_none ?_)
        rw [WindowView.one_mem_orders]
        obtain hn | hn | hn | hn := hout
        · exact absurd (hac.mpr hkind) hn
        · exact .inl (fun h => hn h.1)
        · exact .inl (fun h => by omega)
        · exact .inr hn
      · exact if_neg hkind
    · obtain ⟨hnone, hsome⟩ := WindowView.measure_phaseImbalance_phases (order := order) hk hx (hphases k1 k2 k3 hk3)
      refine ⟨hnone, fun a b d ha hb hd => ?_⟩
      obtain ⟨hzero, hpos⟩ := WindowView.imbalanceOf_three a b d
      exact ⟨fun h => (hsome a b d ha hb hd).trans (hzero h), fun h => (hsome a b d ha hb hd).trans (hpos h)⟩
    · have hoff : ¬ k.acCurrent = true := fun h => hnot (hac.mpr h)
      exact ⟨(WindowView.measure_phaseImbalance hk hx).trans (if_neg hoff),
        (WindowView.measure_bridgeBalance hk hx).trans (if_neg hoff)⟩
    · obtain ⟨hnone, hsome⟩ := WindowView.measure_bridgeBalance_phases (order := order) hk hx (hac.mp hkind)
      refine ⟨hnone, fun a1 a2 a3 b1 b2 b3 h1 h2 h3 h4 h5 h6 => ?_⟩
      have hvalue := hsome a1 a2 a3 b1 b2 b3 h1 h2 h3 h4 h5 h6
      exact ⟨fun h => hvalue.trans (if_pos h), fun h => hvalue.trans (if_neg h)⟩

end Sys2Proof.Machine
end

section
/-! A sample placed, its channel's frontier, and a window that settles (R56, R61 to R63, R66, R77, R78). -/

namespace Sys2Proof.Machine

/-! ## Ticks and cells (4.1) -/

theorem before_iff (t u : Tick) : before t u = true ↔ (u - t).toNat < 32768 ∧ u ≠ t := by
  simp [before, after, atOrAfter]

theorem Descriptor.contains_iff (d : Descriptor) (t : Tick) : d.contains t = true ↔
    (t - d.start).toNat < 32768 ∧ ∀ e : Tick, d.stop = some e → (e - t).toNat < 32768 ∧ e ≠ t := by
  rw [Descriptor.contains, Bool.and_eq_true, atOrAfter, decide_eq_true_eq]
  refine and_congr_right (fun _ => ?_)
  cases d.stop with
  | none => simp
  | some e => simp [before_iff]

theorem moreThanAfter_iff (k : Nat) (t u : Tick) : moreThanAfter k t u = true ↔
    ¬ ((u - t).toNat < 32768 ∧ u ≠ t) ∧ k < (t - u).toNat := by
  rw [moreThanAfter, Bool.and_eq_true, Bool.not_eq_true', ← Bool.not_eq_true, before_iff, decide_eq_true_eq]

theorem sameCell_self (t : Tick) : sameCell t t = true := by simp [sameCell]

/-- A tick's sample after another has been put in place. -/
theorem present?_insertCell (t u : Tick) (v : Int) : ∀ cells : Cells, (∀ c ∈ cells, c.1 ≠ t) →
    present? (insertCell t v cells) u = if t = u then some v else present? cells u
  | [], _ => by
    rw [insertCell]
    by_cases h : t = u <;> simp [present?, h]
  | c :: rest, hc => by
    obtain ⟨hhead, hrest⟩ := List.forall_mem_cons.mp hc
    have htail := present?_insertCell t u v rest hrest
    rw [insertCell]
    split
    · by_cases h : t = u <;> simp [present?, h]
    · by_cases hcu : c.1 = u
      · have hne : t ≠ u := fun h => hhead (hcu.trans h.symm)
        simp [present?, hcu, hne]
      · simp only [present?, List.find?_cons, beq_false_of_ne hcu] at htail ⊢
        exact htail

/-- A written cell holds its sample, and the cells of the other ticks are as they were (R61). -/
theorem present?_writeCell (t u : Tick) (v : Int) (cells : Cells) :
    (present? (writeCell t v cells) t = some v) ∧
      (sameCell t u = false → present? (writeCell t v cells) u = present? cells u) := by
  have hclear : ∀ c ∈ cells.filter (fun c => !sameCell t c.1), c.1 ≠ t := fun c hc h => by
    have := (List.mem_filter.mp hc).2
    rw [h, sameCell_self] at this
    cases this
  refine ⟨(present?_insertCell t t v _ hclear).trans (if_pos rfl), fun hother => ?_⟩
  have hne : t ≠ u := fun h => by
    rw [h, sameCell_self] at hother
    cases hother
  rw [writeCell, present?_insertCell t u v _ hclear, if_neg hne, present?, present?, List.find?_filter]
  refine congrArg (Option.map Prod.snd) (congrArg (fun p => cells.find? p) (funext (fun c => ?_)))
  by_cases h : c.1 = u
  · simp [h, hother]
  · simp [h]

namespace GroupCtx

variable {x : GroupCtx} {t : Tick}

/-! ## The oldest live window (4.1, log 15) -/

theorem live_iff (d : Descriptor) : d.live = true ↔ d.state ≠ .free := bne_iff_ne

/-- The older of the best so far and one more descriptor. -/
def older (x : GroupCtx) (best : Option Desc) (d : Desc) : Option Desc :=
  if x.descs[d].live then
    (match best with
     | some b => if x.age b < x.age d then some d else some b
     | none => some d)
  else best

theorem oldestLive_eq (x : GroupCtx) : x.oldestLive = all3.foldl x.older none := rfl

theorem older_spec (x : GroupCtx) (best : Option Desc) (d : Desc) :
    (x.older best d = none ↔ best = none ∧ x.descs[d].live = false) ∧
      ∀ o : Desc, x.older best d = some o → (best = some o ∨ o = d ∧ x.descs[o].live = true) ∧
        (∀ b, best = some b → x.age b ≤ x.age o) ∧ (x.descs[d].live = true → x.age d ≤ x.age o) := by
  unfold older
  cases hlive : x.descs[d].live with
  | false =>
    rw [if_neg Bool.false_ne_true]
    refine ⟨by simp, fun o ho => ⟨.inl ho, fun b hb => ?_, fun h => by cases h⟩⟩
    rw [Option.some.inj (hb.symm.trans ho)]
  | true =>
    rw [if_pos rfl]
    cases best with
    | none =>
      refine ⟨by simp, fun o ho => ?_⟩
      obtain rfl : d = o := Option.some.inj ho
      exact ⟨.inr ⟨rfl, hlive⟩, fun b hb => (by cases hb), fun _ => le_rfl⟩
    | some b =>
      dsimp only
      split
      next hlt =>
        refine ⟨by simp, fun o ho => ?_⟩
        obtain rfl : d = o := Option.some.inj ho
        refine ⟨.inr ⟨rfl, hlive⟩, fun e he => ?_, fun _ => le_rfl⟩
        rw [← Option.some.inj he]
        exact hlt.le
      next hge =>
        refine ⟨by simp, fun o ho => ?_⟩
        obtain rfl : b = o := Option.some.inj ho
        refine ⟨.inl rfl, fun e he => ?_, fun _ => Nat.not_lt.mp hge⟩
        rw [← Option.some.inj he]

theorem foldl_older_spec (x : GroupCtx) : ∀ (ds : List Desc) (best : Option Desc),
    (ds.foldl x.older best = none ↔ best = none ∧ ∀ d ∈ ds, x.descs[d].live = false) ∧
      ∀ o : Desc, ds.foldl x.older best = some o →
        (best = some o ∨ o ∈ ds ∧ x.descs[o].live = true) ∧ (∀ b, best = some b → x.age b ≤ x.age o) ∧
          ∀ d ∈ ds, x.descs[d].live = true → x.age d ≤ x.age o
  | [], best => by
    refine ⟨by simp, fun o ho => ⟨.inl ho, fun b hb => ?_, fun d hd => absurd hd List.not_mem_nil⟩⟩
    rw [List.foldl_nil] at ho
    rw [Option.some.inj (hb.symm.trans ho)]
  | d :: ds, best => by
    obtain ⟨hnone, hsome⟩ := x.older_spec best d
    obtain ⟨rnone, rsome⟩ := foldl_older_spec x ds (x.older best d)
    rw [List.foldl_cons]
    refine ⟨by rw [rnone, hnone, List.forall_mem_cons, and_assoc], fun o ho => ?_⟩
    obtain ⟨hfrom, hbest, hrest⟩ := rsome o ho
    -- the best so far is at most as old as what the first step kept, and that as what the rest kept
    have hstep : ∀ {a : Nat}, (∀ e, x.older best d = some e → a ≤ x.age e) → x.older best d ≠ none → a ≤ x.age o :=
      fun ha hne => by
        obtain ⟨e, he⟩ := Option.ne_none_iff_exists'.mp hne
        exact (ha e he).trans (hbest e he)
    refine ⟨?_, fun b hb => hstep (fun e he => (hsome e he).2.1 b hb) (fun hn => ?_), fun e he hlive => ?_⟩
    · obtain hkept | ⟨hin, hlive⟩ := hfrom
      · obtain hb | ⟨rfl, hlive⟩ := (hsome o hkept).1
        · exact .inl hb
        · exact .inr ⟨List.mem_cons_self .., hlive⟩
      · exact .inr ⟨List.mem_cons_of_mem d hin, hlive⟩
    · rw [(hnone.mp hn).1] at hb
      cases hb
    · obtain rfl | he := List.mem_cons.mp he
      · refine hstep (fun k hk => (hsome k hk).2.2 hlive) (fun hn => ?_)
        rw [(hnone.mp hn).2] at hlive
        cases hlive
      · exact hrest e he hlive

theorem oldestLive_none_iff (x : GroupCtx) : x.oldestLive = none ↔ ∀ d : Desc, x.descs[d].state = .free := by
  have hall : ∀ d : Desc, d ∈ all3 := by decide
  rw [oldestLive_eq, (x.foldl_older_spec all3 none).1]
  simp only [true_and, ← Bool.not_eq_true, live_iff, not_not]
  exact ⟨fun h d => h d (hall d), fun h d _ => h d⟩

theorem oldestLive_spec {o : Desc} (h : x.oldestLive = some o) :
    x.descs[o].state ≠ .free ∧ ∀ d : Desc, x.descs[d].state ≠ .free → x.age d ≤ x.age o := by
  have hall : ∀ d : Desc, d ∈ all3 := by decide
  obtain ⟨hlive, -, hage⟩ := (x.foldl_older_spec all3 none).2 o h
  exact ⟨(live_iff _).mp (hlive.resolve_left (by simp)).2, fun d hd => hage d (hall d) ((live_iff _).mpr hd)⟩

/-! ## Late and ahead (R61) -/

theorem isLate_iff (x : GroupCtx) (t : Tick) : x.isLate t = true ↔
    (∃ d : Desc, (x.descs[d].state = .queued ∨ x.descs[d].state = .evaluating) ∧ x.descs[d].contains t = true) ∨
      ∃ o : Desc, x.oldestLive = some o ∧ before t x.descs[o].start = true := by
  have hall : ∀ d : Desc, d ∈ all3 := by decide
  rw [isLate, Bool.or_eq_true, List.any_eq_true]
  refine or_congr ?_ ?_
  · simp only [hall, true_and, Bool.and_eq_true, Bool.or_eq_true, beq_iff_eq]
  · cases x.oldestLive <;> simp

theorem isAhead_iff (x : GroupCtx) (t : Tick) : x.isAhead t = true ↔
    (∃ d : Desc, x.descs[d].state = .opened ∧ moreThanAfter 255 t x.descs[d].start = true) ∨
      ∃ o : Desc, x.oldestLive = some o ∧ moreThanAfter 639 t x.descs[o].start = true := by
  have hall : ∀ d : Desc, d ∈ all3 := by decide
  rw [isAhead, Bool.or_eq_true, List.any_eq_true]
  refine or_congr ?_ ?_
  · simp only [hall, true_and, Bool.and_eq_true, beq_iff_eq]
  · cases x.oldestLive <;> simp [Config.storeDepth]

/-! ## Placement (R61) -/

theorem place_discarded (h : x.isLate t = true ∨ x.isAhead t = true) (c : Chan) (v : Int) :
    x.place c t v = { x with late := min 65535 (x.late + 1) } :=
  if_pos (by rw [Bool.or_eq_true]; exact h)

/-- The descriptors after a sample has been put in a cell: counted where the cell was empty and a window takes it. -/
def countedDescs (x : GroupCtx) (c : Chan) (t : Tick) : Vector Descriptor 3 :=
  if (present? x.store[c] t).isSome then x.descs
  else
    match x.countedIn t with
    | some d => x.descs.set d { x.descs[d] with
        received := x.descs[d].received.set c (x.descs[d].received[c] + 1) }
    | none => x.descs

theorem place_placed (h1 : x.isLate t = false) (h2 : x.isAhead t = false) (c : Chan) (v : Int) :
    x.place c t v = { x with
      store := x.store.set c (writeCell t v x.store[c])
      descs := x.countedDescs c t } := by
  have hneither : ¬ (x.isLate t || x.isAhead t) = true := by rw [h1, h2]; decide
  rw [place, if_neg hneither, countedDescs]
  dsimp only
  by_cases hp : (present? x.store[c] t).isSome = true
  · rw [if_pos hp, if_pos hp]
  · rw [if_neg hp, if_neg hp]
    cases x.countedIn t <;> rfl

theorem countedDescs_present {c : Chan} (h : present? x.store[c] t ≠ none) : x.countedDescs c t = x.descs :=
  if_pos (Option.isSome_iff_ne_none.mpr h)

theorem countedDescs_missing {c : Chan} (h : present? x.store[c] t = none) :
    (∀ d : Desc, x.countedIn t = some d → x.countedDescs c t = x.descs.set d { x.descs[d] with
      received := x.descs[d].received.set c (x.descs[d].received[c] + 1) }) ∧
    (x.countedIn t = none → x.countedDescs c t = x.descs) := by
  rw [countedDescs, if_neg (by rw [h]; decide)]
  exact ⟨fun d hd => by rw [hd], fun hn => by rw [hn]⟩

/-- The window that counts a placed sample (R61). -/
theorem countedIn_spec (hok : x.ok) (t : Tick) :
    (∀ d : Desc, x.descs[d].state = .settling → x.descs[d].contains t = true → x.countedIn t = some d) ∧
      ((∀ k : Desc, x.descs[k].state = .settling → ¬ x.descs[k].contains t = true) →
        (∀ d : Desc, x.descs[d].state = .opened → (t - x.descs[d].start).toNat < 32768 → x.countedIn t = some d) ∧
        ((∀ d : Desc, x.descs[d].state = .opened → ¬ (t - x.descs[d].start).toNat < 32768) → x.countedIn t = none)) := by
  have hall : ∀ d : Desc, d ∈ all3 := by decide
  obtain ⟨hopened, hsettling, -⟩ := hok
  rw [countIn_le_one_iff] at hopened hsettling
  have hfind : ∀ {f : Desc → Bool} {d : Desc}, f d = true → (∀ e, f e = true → e = d) → all3.find? f = some d :=
    fun {f d} hd huniq => by
      cases hf : all3.find? f with
      | none => exact absurd hd (by simpa using List.find?_eq_none.mp hf d (hall d))
      | some e => rw [huniq e (List.find?_some hf)]
  unfold countedIn
  refine ⟨fun d hd hin => ?_, fun hnone => ?_⟩
  · rw [hfind (d := d) (Bool.and_eq_true_iff.mpr ⟨beq_iff_eq.mpr hd, hin⟩) (fun e he => ?_)]
    rw [Bool.and_eq_true, beq_iff_eq] at he
    exact hsettling e d he.1 hd
  · have hfirst : all3.find? (fun d => x.descs[d].state == .settling && x.descs[d].contains t) = none :=
      List.find?_eq_none.mpr (fun k _ hk => by
        rw [Bool.and_eq_true, beq_iff_eq] at hk
        exact hnone k hk.1 hk.2)
    rw [hfirst]
    refine ⟨fun d hd hsince => hfind (d := d) (Bool.and_eq_true_iff.mpr ⟨beq_iff_eq.mpr hd, decide_eq_true hsince⟩) (fun e he => ?_), fun hn => ?_⟩
    · rw [Bool.and_eq_true, beq_iff_eq] at he
      exact hopened e d he.1 hd
    · refine List.find?_eq_none.mpr (fun k _ hk => ?_)
      rw [Bool.and_eq_true, beq_iff_eq, atOrAfter, decide_eq_true_eq] at hk
      exact hn k hk.1 hk.2

/-- The group with a descriptor freed: the cells before the oldest remaining window go (R61). -/
theorem freeDesc_spec (x : GroupCtx) (d : Desc) :
    let cleared := { x with descs := x.descs.set d Descriptor.free }
    x.freeDesc d = { cleared with
      store := match cleared.oldestLive with
        | some o => x.store.map (fun cells => cells.filter (fun z =>
            ¬ ((x.descs[o].start - z.1).toNat < 32768 ∧ x.descs[o].start ≠ z.1)))
        | none => x.store } := by
  intro cleared
  have hfree : x.freeDesc d = (match cleared.oldestLive with
      | some o => { cleared with store := vmap (fun cs => cs.filter (fun c => !before c.1 cleared.descs[o].start)) cleared.store }
      | none => cleared) := rfl
  rw [hfree]
  cases ho : cleared.oldestLive with
  | none => rfl
  | some o =>
    have hstart : cleared.descs[o] = x.descs[o] := by
      refine (x.descs_setDesc d o Descriptor.free).trans (if_neg (fun e => ?_))
      refine (oldestLive_spec ho).1 ?_
      rw [show cleared.descs[o] = Descriptor.free from (x.descs_setDesc d o Descriptor.free).trans (if_pos e)]
      rfl
    show ({ cleared with store := _ } : GroupCtx) = { cleared with store := _ }
    rw [vmap_eq_map, hstart]
    refine congrArg (fun st => { cleared with store := st }) (congrArg (fun f => x.store.map f) (funext fun cells => ?_))
    refine List.filter_congr (fun z _ => ?_)
    rw [Bool.eq_iff_iff, Bool.not_eq_true', ← Bool.not_eq_true, before_iff, decide_eq_true_eq]

end GroupCtx

namespace State

variable {s : State} {w : WinRef}

/-! ## A window that settles (R63, R66, R77, R78) -/

theorem settle_queued (hroom : s.ana.queue.length < 16) (hengine : s.ana.engine ≠ none) : s.settle w =
    (s.setDescState w .queued).setAna { (s.setDescState w .queued).ana with queue := s.ana.queue ++ [w] } := by
  refine (if_pos hroom).trans ?_
  obtain ⟨e, he⟩ := Option.ne_none_iff_exists'.mp hengine
  have hbusy : ∀ u : State, u.ana.engine = some e → u.engineTake = u := fun u hu => by
    rw [engineTake, hu]
  exact hbusy _ he

/-- The channels and the available orders that an evaluation takes its time from (R78). -/
theorem evalDuration_eq (s : State) (w : WinRef) :
    let d := (s.group w.group).descs[w.desc]
    let bank := s.bankOf d.tag
    let n := d.len.getD 0
    s.evalDuration w = 20 * (20 + (all8.filter (fun c => (bank.entryOf w.group c).isSome)).length *
      (bank.plans[w.group].orders.filter (fun h => 2 * h < n)).length) +
        (all8.filter (fun c => (bank.entryOf w.group c).isSome)).length * n := rfl

theorem group_setDescState_self (s : State) (w : WinRef) (st : DescState) : (s.setDescState w st).group w.group =
    (s.group w.group).setDesc w.desc { (s.group w.group).descs[w.desc] with state := st } :=
  s.group_modGroup_self w.group _

theorem setGroup_setGroup (s : State) (g : Group) (x y : GroupCtx) : (s.setGroup g x).setGroup g y = s.setGroup g y :=
  congrArg (fun v => s.setAna { s.ana with groups := v }) (Vector.set_set _ _)

theorem setDescState_setDescState (s : State) (w : WinRef) (a b : DescState) :
    (s.setDescState w a).setDescState w b = s.setDescState w b := by
  have hself := s.group_setDescState_self w a
  have hdesc : ((s.setDescState w a).group w.group).descs[w.desc] = { (s.group w.group).descs[w.desc] with state := a } := by
    rw [hself]
    exact (GroupCtx.descs_setDesc _ _ _ _).trans (if_pos rfl)
  have hset : ((s.setDescState w a).group w.group).setDesc w.desc
      { ((s.setDescState w a).group w.group).descs[w.desc] with state := b } =
        (s.group w.group).setDesc w.desc { (s.group w.group).descs[w.desc] with state := b } := by
    rw [hdesc, hself]
    exact congrArg (fun v => { s.group w.group with descs := v }) (Vector.set_set _ _)
  exact (congrArg ((s.setDescState w a).setGroup w.group) hset).trans (s.setGroup_setGroup w.group _ _)

theorem evalDuration_setDescState (s : State) (w : WinRef) (st : DescState) :
    (s.setDescState w st).evalDuration w = s.evalDuration w := by
  have hdesc : ((s.setDescState w st).group w.group).descs[w.desc] = { (s.group w.group).descs[w.desc] with state := st } := by
    rw [group_setDescState_self]
    exact (GroupCtx.descs_setDesc _ _ _ _).trans (if_pos rfl)
  unfold evalDuration
  rw [hdesc]
  rfl

/-- The idle engine takes the only window of the queue. -/
theorem engineTake_single {u : State} (hengine : u.ana.engine = none) (hqueue : u.ana.queue = [w]) : u.engineTake =
    (u.setDescState w .evaluating).setAna { (u.setDescState w .evaluating).ana with
      queue := [], engine := some ⟨w, u.evalDuration w, 0⟩ } := by
  rw [engineTake, hengine, hqueue]

theorem settle_evaluating (hqueue : s.ana.queue = []) (hengine : s.ana.engine = none) : s.settle w =
    (s.setDescState w .evaluating).setAna { (s.setDescState w .evaluating).ana with
      engine := some ⟨w, s.evalDuration w, 0⟩ } := by
  have hfirst : s.settle w = ((s.setDescState w .queued).setAna { (s.setDescState w .queued).ana with
      queue := s.ana.queue ++ [w] }).engineTake := if_pos (by rw [hqueue]; decide)
  rw [hqueue] at hfirst
  have htake := engineTake_single (w := w) (u := (s.setDescState w .queued).setAna { (s.setDescState w .queued).ana with
    queue := [] ++ [w] }) hengine rfl
  have hstate := s.setDescState_setDescState w .queued .evaluating
  have hduration := s.evalDuration_setDescState w .queued
  refine hfirst.trans (htake.trans ?_)
  show ((s.setDescState w .queued).setDescState w .evaluating).setAna
    { ((s.setDescState w .queued).setDescState w .evaluating).ana with
      queue := [], engine := some ⟨w, (s.setDescState w .queued).evalDuration w, 0⟩ } = _
  rw [hstate, hduration]
  exact congrArg (fun q => (s.setDescState w .evaluating).setAna { (s.setDescState w .evaluating).ana with
    queue := q, engine := some ⟨w, s.evalDuration w, 0⟩ }) hqueue.symm

/-! ## A sample taken (R56, R62, R63) -/

theorem judgeSettlement_none {g : Group} (h : ∀ d : Desc, (s.group g).descs[d].state ≠ .settling) : s.judgeSettlement g = s := by
  rw [judgeSettlement]
  dsimp only
  rw [((s.group g).descIn_eq_none_iff .settling).mpr h]

/-- The channels that a SETTLING window waits for have passed its end (R63). -/
def Settles (s : State) (g : Group) (d : Desc) : Prop :=
  let x := s.group g
  let bank := s.bankOf x.descs[d].tag
  let stop := x.descs[d].stop.getD 0
  (∀ b : Chan, (bank.entryOf g b).isSome → x.reached b (stop - 1) = true) ∨
    x.reached (s.plan g).refChan (stop + BitVec.ofNat 16 bank.plans[g].allowance) = true

theorem judgeSettlement_some {g : Group} {d : Desc} (h : (s.group g).descIn .settling = some d) :
    (s.Settles g d → s.judgeSettlement g = s.settle ⟨g, d⟩) ∧ (¬ s.Settles g d → s.judgeSettlement g = s) := by
  have hiff : ((((s.bankOf (s.group g).descs[d].tag).channels g).all
      (fun c => (s.group g).reached c ((s.group g).descs[d].stop.getD 0 - 1)) ||
      (s.group g).reached (s.plan g).refChan ((s.group g).descs[d].stop.getD 0 +
        BitVec.ofNat 16 (s.bankOf (s.group g).descs[d].tag).plans[g].allowance)) = true) ↔ s.Settles g d := by
    rw [Bool.or_eq_true, List.all_eq_true]
    refine or_congr (forall_congr' fun b => ?_) Iff.rfl
    rw [Bank.channels, List.mem_filter, and_iff_right (mem_all8 b)]
    rfl
  rw [← hiff, judgeSettlement]
  dsimp only
  rw [h]
  exact ⟨fun hs => if_pos hs, fun hs => if_neg hs⟩

theorem takeSample_off {g : Group} (h : (s.group g).state = .off ∨ (s.group g).state = .quiesced) (c : Chan) (t : Tick) (v : Int) :
    s.takeSample g c t v = s :=
  if_pos (by rw [Bool.or_eq_true, beq_iff_eq, beq_iff_eq]; exact h)

theorem takeSample_taken {g : Group} (h1 : (s.group g).state ≠ .off) (h2 : (s.group g).state ≠ .quiesced) (c : Chan) (t : Tick)
    (v : Int) : s.takeSample g c t v =
      ((if c = (s.plan g).refChan ∧ ((s.group g).state = .seeking ∨ (s.group g).state = .tracking ∨
          (s.group g).state = .blind) then s.takeReference g t v else s).modGroup g
            (fun x => (x.place c t v).advance c t)).judgeSettlement g := by
  refine (if_neg (by rw [Bool.or_eq_true, beq_iff_eq, beq_iff_eq]; exact fun h => h.elim h1 h2)).trans ?_
  refine congrArg (fun u : State => (u.modGroup g (fun x => (x.place c t v).advance c t)).judgeSettlement g) (if_congr ?_ rfl rfl)
  rw [Bool.and_eq_true, beq_iff_eq, examines, Bool.or_eq_true, Bool.or_eq_true, beq_iff_eq, beq_iff_eq, beq_iff_eq, or_assoc]

end State

theorem GroupCtx.advance_frontiers (x : GroupCtx) (c : Chan) (t : Tick) : x.advance c t = { x with
    frontiers := match x.frontiers[c] with
      | some f => if t ≠ f ∧ (t - f).toNat < 32768 then x.frontiers.set c (some t) else x.frontiers
      | none => x.frontiers.set c (some t) } := by
  have hpasses := x.passes_iff c t
  unfold GroupCtx.advance
  cases hf : x.frontiers[c] with
  | none =>
    rw [hf] at hpasses
    exact if_pos (hpasses.mpr (fun f h => by cases h))
  | some f =>
    rw [hf] at hpasses
    simp only [Option.some.injEq, forall_eq'] at hpasses
    show _ = { x with frontiers := if t ≠ f ∧ (t - f).toNat < 32768 then x.frontiers.set c (some t) else x.frontiers }
    by_cases hp : x.passes c t = true
    · rw [if_pos hp, if_pos (hpasses.mp hp)]
    · rw [if_neg hp, if_neg (fun h => hp (hpasses.mpr h))]

/-- Settles O31: the sample taken step by step, the three ways to settle, and the placement case by case. -/
theorem samplePlacedOrCounted : Obligations.SamplePlacedOrCounted := by
  refine ⟨fun s g c t v => ?_, fun s w => ?_, fun x c t v => ?_⟩
  · intro st does
    refine ⟨fun h => State.takeSample_off h c t v, fun h1 h2 => ?_⟩
    intro r y z placed passed settles
    have hdoes : does = placed.judgeSettlement g := by
      refine (State.takeSample_taken h1 h2 c t v).trans (congrArg (fun u : State => u.judgeSettlement g) ?_)
      show r.setGroup g (((r.group g).place c t v).advance c t) = r.setGroup g z
      exact congrArg (r.setGroup g) (GroupCtx.advance_frontiers _ c t)
    have hgroup : placed.group g = z := r.group_setGroup g z
    have hpassed : ∀ (b : Chan) (u : Tick), z.reached b u = true ↔ passed b u := fun b u => z.reached_iff b u
    have hsettles : ∀ d, placed.Settles g d ↔ settles d := fun d => by
      unfold State.Settles
      rw [hgroup]
      simp only [hpassed]
      rfl
    rw [hdoes]
    refine ⟨fun hno => ?_, fun d hd hlow hs => ?_⟩
    · cases hin : (placed.group g).descIn .settling with
      | none => exact State.judgeSettlement_none (((placed.group g).descIn_eq_none_iff _).mp hin)
      | some d =>
        have hd := GroupCtx.state_of_descIn hin
        rw [hgroup] at hd
        exact (State.judgeSettlement_some hin).2 (fun hs => hno d hd ((hsettles d).mp hs))
    · have hin : (placed.group g).descIn .settling = some d := by
        rw [hgroup]
        exact (z.descIn_eq_some_iff _ d).mpr ⟨hd, hlow⟩
      exact (State.judgeSettlement_some hin).1 ((hsettles d).mpr hs)
  · intro x d marked bank n channels orders cleared
    refine ⟨State.settle_queued, State.settle_evaluating, fun hfull => ?_⟩
    rw [State.settle_of_full hfull]
    refine congrArg (fun y => (s.setGroup w.group y).raise .evaluationOverrun) ?_
    exact GroupCtx.freeDesc_spec x w.desc
  · intro since earlier inside age y countedIn
    have hinside : ∀ d : Desc, x.descs[d].contains t = true ↔ inside d := fun d => x.descs[d].contains_iff t
    refine ⟨x.oldestLive_none_iff, fun o ho => GroupCtx.oldestLive_spec ho, ?_, ?_, fun h => GroupCtx.place_discarded h c v,
      fun h1 h2 => ?_⟩
    · simp only [GroupCtx.isLate_iff, hinside, before_iff]
      rfl
    · simp only [GroupCtx.isAhead_iff, moreThanAfter_iff]
      rfl
    · have hplaced : y = _ := GroupCtx.place_placed h1 h2 c v
      have hstore : ∀ b : Chan, y.store[b] = if b = c then writeCell t v x.store[c] else x.store[b] := fun b => by
        rw [hplaced, Fin.getElem_fin, Vector.getElem_set]
        exact if_congr ⟨fun e => Fin.ext e.symm, fun e => by rw [e]⟩ rfl rfl
      have hdescs : y.descs = x.countedDescs c t := congrArg GroupCtx.descs hplaced
      refine ⟨?_, ?_, fun b hb => (hstore b).trans (if_neg hb), fun u hu => ?_, fun hp => ?_, fun hmissing hok => ?_⟩
      · rw [hstore, if_pos rfl]
        exact (present?_writeCell t t v x.store[c]).1
      · rw [hplaced]
      · rw [hstore, if_pos rfl]
        exact (present?_writeCell t u v x.store[c]).2 hu
      · rw [hdescs, GroupCtx.countedDescs_present hp]
      · obtain ⟨hsome, hnone⟩ := GroupCtx.countedDescs_missing hmissing
        obtain ⟨hsettling, hopened⟩ := GroupCtx.countedIn_spec hok t
        refine ⟨fun d hd hin => hdescs.trans (hsome d (hsettling d hd ((hinside d).mpr hin))), fun hn => ?_⟩
        obtain ⟨hcounted, huncounted⟩ := hopened (fun k hk hin => hn k hk ((hinside k).mp hin))
        exact ⟨fun d hd hs => hdescs.trans (hsome d (hcounted d hd hs)), fun ho => hdescs.trans (hnone (huncounted ho))⟩

end Sys2Proof.Machine
end

section
/-! A reference sample examined, and the window that its crossing opens (R55, R57, R58, R64). -/

namespace Sys2Proof.Machine

namespace GroupCtx

variable {x : GroupCtx}

/-! ## Crossings and entries into SEEKING -/

theorem crossing_iff (x : GroupCtx) (t : Tick) (v : Int) : x.crossing t v = true ↔
    0 ≤ v ∧ x.arm = true ∧ ∃ w : Int, x.lastRef = some (t - 1, w) ∧ w < 0 := by
  rw [crossing, Bool.and_eq_true, Bool.and_eq_true, decide_eq_true_eq, and_assoc]
  refine and_congr_right (fun _ => and_congr_right (fun _ => ?_))
  cases x.lastRef with
  | none => simp
  | some last =>
    obtain ⟨u, w⟩ := last
    simp

/-- The store of a group that enters SEEKING keeps what lies in live windows (R55). -/
theorem enterSeeking_eq (x : GroupCtx) : x.enterSeeking = { x with
    state := .seeking, arm := false, lastRef := none, frontiers := Vector.replicate 8 none, rejects := 0
    store := x.store.map (fun cells => cells.filter (fun z => decide (∃ d : Desc, x.descs[d].state ≠ .free ∧
      (z.1 - x.descs[d].start).toNat < 32768 ∧
      ∀ e ∈ x.descs[d].stop, (e - z.1).toNat < 32768 ∧ e ≠ z.1))) } := by
  have hany : ∀ f : Desc → Bool, all3.any f = true ↔ ∃ d : Desc, f d = true := by decide
  rw [enterSeeking, vmap_eq_map]
  refine congrArg (fun f : Cells → Cells => ({ x with
    state := .seeking, arm := false, lastRef := none, frontiers := Vector.replicate 8 none, rejects := 0
    store := x.store.map f } : GroupCtx)) (funext fun cells => List.filter_congr (fun z _ => ?_))
  rw [Bool.eq_iff_iff, decide_eq_true_eq, hany]
  refine exists_congr (fun d => ?_)
  rw [Bool.and_eq_true, Descriptor.contains_iff, Descriptor.live, bne_iff_ne]
  rfl

/-! ## A window opened -/

/-- The group with a window opened at a tick in the given descriptor (R64). -/
def opened (x : GroupCtx) (d : Desc) (t : Tick) (held : Bool) : GroupCtx :=
  { x.setDesc d (State.openedDesc x t held) with counter := x.counter + 1 }

@[simp] theorem descs_opened (x : GroupCtx) (d e : Desc) (t : Tick) (held : Bool) :
    (x.opened d t held).descs[e] = if e = d then State.openedDesc x t held else x.descs[e] :=
  x.descs_setDesc d e _

theorem counts_eq (x : GroupCtx) (start : Tick) (n : Nat) (c : Chan) :
    (x.counts start n)[c] = (x.store[c].filter (fun z => (z.1 - start).toNat < n)).length := by
  rw [counts, vmap_eq_map, Fin.getElem_fin, Vector.getElem_map]
  rfl

/-- The group with a window opened by a crossing of its reference (R58). -/
def openedBy (x : GroupCtx) (d : Desc) (t : Tick) (v : Int) (held : Bool) : GroupCtx :=
  { x.opened d t held with state := .tracking, arm := false, lastRef := some (t, v) }

/-- The lowest-numbered FREE descriptor of a group with one freed. -/
theorem descIn_free_freeDesc (h : ∀ d : Desc, x.descs[d].state ≠ .free) (d : Desc) :
    (x.freeDesc d).descIn .free = some d := by
  rw [descIn_eq_some_iff]
  refine ⟨by rw [descs_freeDesc, if_pos rfl]; rfl, fun k hk => ?_⟩
  rw [descs_freeDesc, if_neg (ne_of_lt hk)]
  exact h k

end GroupCtx

namespace State

variable {s : State} {g : Group}

theorem setGroup_group (s : State) (g : Group) : s.setGroup g (s.group g) = s :=
  congrArg (fun v => s.setAna { s.ana with groups := v }) (Vector.set_getElem_self _)

theorem modGroup_modGroup (s : State) (g : Group) (f h : GroupCtx → GroupCtx) :
    (s.modGroup g f).modGroup g h = s.modGroup g (fun x => h (f x)) := by
  rw [modGroup, group_modGroup_self]
  exact s.setGroup_setGroup g _ _

/-- A window opens in the lowest-numbered FREE descriptor (R64). -/
theorem openWindow_free {d : Desc} (h : (s.group g).descIn .free = some d) (t : Tick) :
    s.openWindow g t = s.modGroup g (fun x => x.opened d t s.holding) := by
  unfold openWindow
  dsimp only
  rw [h]
  simp only [Option.isNone_some, Bool.false_eq_true, ↓reduceIte, h]
  rfl

/-- The oldest QUEUED window of a group withdrawn (R64). -/
theorem withdrawOldest_some {q : WinRef} (h : s.ana.queue.find? (fun a => a.group == g) = some q) :
    q.group = g ∧ s.withdrawOldest g =
      ((s.freeDesc q).setAna { (s.freeDesc q).ana with queue := s.ana.queue.erase q }).raise .evaluationOverrun := by
  refine ⟨by simpa using List.find?_some h, ?_⟩
  rw [withdrawOldest, h]
  rfl

/-- A window opens in the descriptor of the group's oldest QUEUED window, which is withdrawn for it (R64). -/
theorem openWindow_withdrawn {q : WinRef} (hfull : ∀ d : Desc, (s.group g).descs[d].state ≠ .free)
    (h : s.ana.queue.find? (fun a => a.group == g) = some q) (t : Tick) :
    s.openWindow g t = (s.withdrawOldest g).modGroup g (fun x => x.opened q.desc t s.holding) ∧
      (s.withdrawOldest g).group g = (s.group g).freeDesc q.desc := by
  obtain ⟨rfl, hwithdrawn⟩ := withdrawOldest_some h
  have hgroup : (s.withdrawOldest q.group).group q.group = (s.group q.group).freeDesc q.desc := by
    rw [hwithdrawn]
    exact s.group_modGroup_self q.group (fun x => x.freeDesc q.desc)
  refine ⟨?_, hgroup⟩
  have hin : ((s.withdrawOldest q.group).group q.group).descIn .free = some q.desc := by
    rw [hgroup]
    exact GroupCtx.descIn_free_freeDesc hfull q.desc
  unfold openWindow
  dsimp only
  rw [((s.group q.group).descIn_eq_none_iff .free).mpr hfull]
  simp only [Option.isNone_none, ↓reduceIte, hin]
  rfl

/-! ## The examination of a reference sample (R57) -/

/-- The reference sample of a group that is not in BLIND (R57). -/
def examine (s : State) (g : Group) (t : Tick) (v : Int) : State :=
  let p := s.plan g
  let x := s.group g
  if x.passes p.refChan t then
    (match x.state with
      | .seeking => s.judgeSeeking g p t v
      | .tracking =>
        (match x.descIn .opened with
         | some d => s.judgeTracking g p d t v
         | none => s.armBy g p v)
      | .off => s
      | .blind => s
      | .quiescing => s
      | .quiesced => s).modGroup g (fun y => { y with lastRef := some (t, v) })
  else s

theorem takeReference_eq (s : State) (g : Group) (t : Tick) (v : Int) : s.takeReference g t v =
    (if (s.group g).state == .blind then s.modGroup g GroupCtx.enterSeeking else s).examine g t v := rfl

theorem takeReference_not_blind (h : (s.group g).state ≠ .blind) (t : Tick) (v : Int) :
    s.takeReference g t v = s.examine g t v := by
  rw [takeReference_eq, if_neg (fun e => h (eq_of_beq e))]

/-- A reference sample ends BLIND (R57). -/
theorem takeReference_blind (h : (s.group g).state = .blind) (t : Tick) (v : Int) :
    s.takeReference g t v = (s.modGroup g GroupCtx.enterSeeking).takeReference g t v := by
  have hstate : ((s.modGroup g GroupCtx.enterSeeking).group g).state ≠ .blind := by
    rw [group_modGroup_self]
    exact fun e => by cases e
  rw [takeReference_not_blind hstate, takeReference_eq, if_pos (beq_iff_eq.mpr h)]

theorem takeReference_passed (h : (s.group g).state ≠ .blind) {t : Tick} (hp : ¬ (s.group g).passes (s.plan g).refChan t = true)
    (v : Int) : s.takeReference g t v = s := by
  rw [takeReference_not_blind h]
  exact if_neg hp

theorem takeReference_seeking (h : (s.group g).state = .seeking) {t : Tick} (hp : (s.group g).passes (s.plan g).refChan t = true)
    (v : Int) : s.takeReference g t v =
      (s.judgeSeeking g (s.plan g) t v).modGroup g (fun y => { y with lastRef := some (t, v) }) := by
  rw [takeReference_not_blind (by rw [h]; decide)]
  unfold examine
  dsimp only
  rw [if_pos hp, h]

theorem takeReference_tracking (h : (s.group g).state = .tracking) {d : Desc} (hd : (s.group g).descIn .opened = some d)
    {t : Tick} (hp : (s.group g).passes (s.plan g).refChan t = true) (v : Int) : s.takeReference g t v =
      (s.judgeTracking g (s.plan g) d t v).modGroup g (fun y => { y with lastRef := some (t, v) }) := by
  rw [takeReference_not_blind (by rw [h]; decide)]
  unfold examine
  dsimp only
  rw [if_pos hp, h, hd]

/-- A sample without a crossing can only arm (R57). -/
theorem armBy_eq (s : State) (g : Group) (p : Plan) (v : Int) :
    s.armBy g p v = s.modGroup g (fun x => { x with arm := x.arm || decide (v ≤ -(p.band : Int)) }) := by
  unfold armBy
  split
  next h =>
    rw [decide_eq_true h]
    simp only [Bool.or_true]
  next h =>
    rw [decide_eq_false h]
    simp only [Bool.or_false]
    exact (s.setGroup_group g).symm

/-- A crossing in SEEKING opens the next window, and the group enters TRACKING (R58). -/
theorem takeReference_opens (h : (s.group g).state = .seeking) {t : Tick} (hp : (s.group g).passes (s.plan g).refChan t = true)
    {v : Int} (hc : (s.group g).crossing t v = true) : s.takeReference g t v =
      (s.openWindow g t).modGroup g (fun x => { x with state := .tracking, arm := false, lastRef := some (t, v) }) := by
  rw [takeReference_seeking h hp, judgeSeeking, if_pos hc, modGroup_modGroup]

end State

/-- Settles O29: the crossing, the frontier and the entry into SEEKING spelled out; the examined sample arms, or opens a
window in a FREE descriptor or in that of the withdrawn one. -/
theorem crossingOpensWindow : Obligations.CrossingOpensWindow := by
  intro s g t v x r y examined
  refine ⟨x.crossing_iff t v, fun c => x.passes_iff c t, fun h => ?_, fun h hn => State.takeReference_passed h hn v,
    fun h hp hc => ?_, fun h hp hc => ?_⟩
  · refine (State.takeReference_blind h t v).trans (congrArg (fun z => (s.setGroup g z).takeReference g t v) ?_)
    exact x.enterSeeking_eq
  · refine (State.takeReference_seeking h hp v).trans ?_
    rw [State.judgeSeeking, if_neg (fun e => Bool.false_ne_true (hc.symm.trans e)), State.armBy_eq, State.modGroup_modGroup]
    rfl
  · intro opens
    have hr : r = _ := State.takeReference_opens h hp hc
    have hopens : ∀ (d : Desc) (z : GroupCtx), y = z.openedBy d t v s.holding → z.counter = x.counter → z.gen = x.gen →
        (∀ e : Desc, e ≠ d → z.descs[e] = x.descs[e]) → opens d := fun d z hy hcounter hgen hothers => by
      have hdesc : y.descs[d] = ⟨.opened, x.counter + 1, t, none, none, x.gen, z.counts t 256, s.mgmt.hold.isSome⟩ := by
        rw [hy, ← hcounter, ← hgen]
        exact (z.descs_opened d d t s.holding).trans (if_pos rfl)
      have hcount : ∀ c : Chan, y.descs[d].received[c] = (y.store[c].filter (fun a => (a.1 - t).toNat < 256)).length :=
        fun c => by
          rw [hdesc, hy]
          exact z.counts_eq t 256 c
      refine ⟨(congrArg GroupCtx.state hy :), (congrArg GroupCtx.arm hy :), ?_, (congrArg GroupCtx.lastRef hy :),
        (congrArg Descriptor.state hdesc :), (congrArg Descriptor.number hdesc :), (congrArg Descriptor.start hdesc :),
        (congrArg Descriptor.stop hdesc :), (congrArg Descriptor.len hdesc :), (congrArg Descriptor.tag hdesc :),
        (congrArg Descriptor.held hdesc :), hcount, fun e he => ?_⟩
      · rw [hy, ← hcounter]
        rfl
      · rw [hy]
        exact ((z.descs_opened d e t s.holding).trans (if_neg he)).trans (hothers e he)
    refine ⟨fun d hd hlow => ?_, fun hfull q hq => ?_⟩
    · have hfree := State.openWindow_free ((x.descIn_eq_some_iff .free d).mpr ⟨hd, hlow⟩) t
      rw [hfree, State.modGroup_modGroup] at hr
      have hy : y = x.openedBy d t v s.holding :=
        (congrArg (fun u : State => u.group g) hr).trans (s.group_setGroup g _)
      exact ⟨hopens d x hy rfl rfl (fun _ _ => rfl), (congrArg GroupCtx.store hy :),
        hr.trans (congrArg (s.setGroup g) hy.symm)⟩
    · obtain ⟨hopen, hgroup⟩ := State.openWindow_withdrawn hfull hq t
      obtain ⟨-, hwithdrawn⟩ := State.withdrawOldest_some hq
      rw [hopen, State.modGroup_modGroup] at hr
      have hy : y = (x.freeDesc q.desc).openedBy q.desc t v s.holding := by
        refine (congrArg (fun u : State => u.group g) hr).trans ((State.group_modGroup_self _ g _).trans ?_)
        rw [hgroup]
        rfl
      obtain ⟨store, hfreed⟩ := x.freeDesc_eq q.desc
      refine ⟨hopens q.desc (x.freeDesc q.desc) hy ?_ ?_ (fun e he => ?_), ?_, ?_, fun h hh => ?_⟩
      · rw [hfreed]
        rfl
      · exact x.freeDesc_gen q.desc
      · rw [x.descs_freeDesc, if_neg he]
      · rw [hr, hwithdrawn]
        rfl
      · rw [hr, hwithdrawn]
        exact State.raised_raise_self _ _
      · rw [hr, State.group_modGroup_ne _ _ hh, hwithdrawn]
        have hq : q.group = g := (State.withdrawOldest_some hq).1
        exact s.group_modGroup_ne (fun x => x.freeDesc q.desc) (fun e => hh (e.trans hq))

end Sys2Proof.Machine
end

section
/-! What settlements and boundaries leave of a group (R59, R60, R63, R71, R72), ahead of the judgement of a reference
sample in TRACKING. -/

namespace Sys2Proof.Machine

namespace GroupCtx

/-- Only descriptors and the Sample Store have changed. -/
def Alike (y x : GroupCtx) : Prop := { y with descs := x.descs, store := x.store } = x

theorem Alike.refl (x : GroupCtx) : x.Alike x := rfl

theorem Alike.trans {x y z : GroupCtx} (h : z.Alike y) (k : y.Alike x) : z.Alike x :=
  (congrArg (fun a : GroupCtx => { a with descs := x.descs, store := x.store }) h :).trans k

theorem Alike.counter {x y : GroupCtx} (h : y.Alike x) : y.counter = x.counter := (congrArg GroupCtx.counter h :)
theorem Alike.rejects {x y : GroupCtx} (h : y.Alike x) : y.rejects = x.rejects := (congrArg GroupCtx.rejects h :)

theorem alike_freeDesc (x : GroupCtx) (d : Desc) : (x.freeDesc d).Alike x := by
  obtain ⟨store, h⟩ := x.freeDesc_eq d
  rw [h]
  rfl

end GroupCtx

namespace State

variable {s t u : State} {g : Group} {x : Option Group}

/-- Every group is as it was but for descriptors and store. -/
def Alike (t s : State) : Prop := ∀ k : Group, (t.group k).Alike (s.group k)

theorem Alike.refl (s : State) : s.Alike s := fun k => .refl (s.group k)

theorem Alike.trans (h : u.Alike t) (k : t.Alike s) : u.Alike s := fun g => (h g).trans (k g)

theorem alike_modGroup (s : State) (g : Group) {f : GroupCtx → GroupCtx} (hf : (f (s.group g)).Alike (s.group g)) :
    (s.modGroup g f).Alike s := fun k => by
  rw [group_modGroup]
  split
  next e => rw [e]; exact hf
  next => exact .refl _

/-! ## Settlements with room in the Evaluation Queue -/

/-- Only the states of descriptors, the Evaluation Queue and the engine have changed. -/
structure Requeued (t s : State) : Prop where
  rest : { t with ana := s.ana } = s
  groups : ∀ k : Group, { t.group k with descs := (s.group k).descs } = s.group k
  descs : ∀ (k : Group) (d : Desc),
    { (t.group k).descs[d] with state := (s.group k).descs[d].state } = (s.group k).descs[d]

theorem Requeued.refl (s : State) : s.Requeued s := ⟨rfl, fun _ => rfl, fun _ _ => rfl⟩

theorem Requeued.trans (h : u.Requeued t) (k : t.Requeued s) : u.Requeued s where
  rest := (congrArg (fun a : State => { a with ana := s.ana }) h.rest :).trans k.rest
  groups g := (congrArg (fun a : GroupCtx => { a with descs := (s.group g).descs }) (h.groups g) :).trans (k.groups g)
  descs g d := (congrArg (fun a : Descriptor => { a with state := (s.group g).descs[d].state }) (h.descs g d) :).trans
    (k.descs g d)

theorem Requeued.alike (h : t.Requeued s) : t.Alike s := fun k =>
  (congrArg (fun a : GroupCtx => { a with store := (s.group k).store }) (h.groups k) :)

theorem Requeued.store (h : t.Requeued s) (k : Group) : (t.group k).store = (s.group k).store :=
  (congrArg GroupCtx.store (h.groups k) :)

theorem Requeued.disp (h : t.Requeued s) : t.disp = s.disp := (congrArg State.disp h.rest :)
theorem Requeued.rep (h : t.Requeued s) : t.rep = s.rep := (congrArg State.rep h.rest :)

/-- A descriptor whose state is the same is the same. -/
theorem Requeued.desc_eq (h : t.Requeued s) {k : Group} {d : Desc} (hs : t.stateOf ⟨k, d⟩ = s.stateOf ⟨k, d⟩) :
    (t.group k).descs[d] = (s.group k).descs[d] := by
  have hd := h.descs k d
  rw [show (s.group k).descs[d].state = (t.group k).descs[d].state from hs.symm] at hd
  exact hd

theorem requeued_setDescState (s : State) (w : WinRef) (st : DescState) : (s.setDescState w st).Requeued s := by
  refine ⟨rfl, fun k => ?_, fun k d => ?_⟩
  · rw [setDescState, group_modGroup]
    split
    next e => rw [e]; rfl
    next => rfl
  · rw [setDescState, group_modGroup]
    split
    next e =>
      subst e
      rw [GroupCtx.descs_setDesc]
      split
      next e => rw [e]
      next => rfl
    next => rfl

theorem requeued_engineTake (s : State) : s.engineTake.Requeued s := by
  unfold engineTake
  split
  next w rest _ _ =>
    obtain ⟨-, hgroups, hdescs⟩ := s.requeued_setDescState w .evaluating
    exact ⟨rfl, hgroups, hdescs⟩
  next => exact .refl s

theorem requeued_settle (hroom : s.ana.queue.length < 16) (w : WinRef) : (s.settle w).Requeued s := by
  unfold settle
  split
  next =>
    obtain ⟨-, hgroups, hdescs⟩ := s.requeued_setDescState w .queued
    exact (requeued_engineTake _).trans ⟨rfl, hgroups, hdescs⟩
  next hfull => exact absurd hroom hfull

theorem requeued_settleNow (hroom : s.ana.queue.length < 16) (g : Group) : (s.settleNow g).Requeued s := by
  unfold settleNow
  split
  · exact requeued_settle hroom _
  · exact .refl s

theorem requeued_judgeSettlement (hroom : s.ana.queue.length < 16) (g : Group) : (s.judgeSettlement g).Requeued s := by
  unfold judgeSettlement
  dsimp only
  split
  · exact .refl s
  · split
    · exact requeued_settle hroom _
    · exact .refl s

theorem settleNow_none (h : ∀ d : Desc, (s.group g).descs[d].state ≠ .settling) : s.settleNow g = s := by
  rw [settleNow, ((s.group g).descIn_eq_none_iff .settling).mpr h]

/-- With room in the queue the SETTLING window is under way and the FREE descriptors are the same ones (R63, R66). -/
theorem settleNow_room (h : s.WindowsBut x) (hroom : s.ana.queue.length < 16) (g : Group) (d : Desc) :
    (s.stateOf ⟨g, d⟩ = .settling → (s.settleNow g).stateOf ⟨g, d⟩ = .queued ∨ (s.settleNow g).stateOf ⟨g, d⟩ = .evaluating) ∧
      ((s.settleNow g).stateOf ⟨g, d⟩ = .free ↔ s.stateOf ⟨g, d⟩ = .free) := by
  obtain ⟨hmoved, hsettled⟩ := (settleNow_moves h g).2 ⟨g, d⟩
  have hset : s.stateOf ⟨g, d⟩ = .settling →
      (s.settleNow g).stateOf ⟨g, d⟩ = .queued ∨ (s.settleNow g).stateOf ⟨g, d⟩ = .evaluating := fun hs => by
    obtain hq | he | ⟨hfull, -⟩ := hsettled ⟨rfl, hs⟩
    · exact .inl hq
    · exact .inr he
    · omega
  refine ⟨hset, ?_⟩
  by_cases hs : s.stateOf ⟨g, d⟩ = .settling
  · refine iff_of_false (fun hf => ?_) (by rw [hs]; decide)
    obtain hq | he := hset hs
    · rw [hf] at hq
      cases hq
    · rw [hf] at he
      cases he
  · obtain hkept | ⟨hq, he⟩ := hmoved (fun e => hs e.2)
    · rw [hkept]
    · exact iff_of_false (by rw [he]; decide) (by rw [hq]; decide)

/-- The SETTLING window of a group is under way after the judgement of its settlement, with room in the queue; the other
windows stay or are taken by the engine (R63, R66, R77). -/
theorem judgeSettlement_room (h : s.WindowsBut x) (hroom : s.ana.queue.length < 16) {d : Desc}
    (hd : s.stateOf ⟨g, d⟩ = .settling) :
    ((s.judgeSettlement g).stateOf ⟨g, d⟩ = .settling ∨ (s.judgeSettlement g).stateOf ⟨g, d⟩ = .queued ∨
      (s.judgeSettlement g).stateOf ⟨g, d⟩ = .evaluating) ∧
    ∀ v : WinRef, v ≠ ⟨g, d⟩ → (s.judgeSettlement g).Moved s v := by
  cases hin : (s.group g).descIn .settling with
  | none => exact absurd hd (((s.group g).descIn_eq_none_iff _).mp hin d)
  | some e =>
    obtain rfl : e = d := h.settling g e d (GroupCtx.state_of_descIn hin) hd
    obtain ⟨hsettles, hwaits⟩ := judgeSettlement_some hin
    by_cases hs : s.Settles g e
    · rw [hsettles hs]
      refine ⟨?_, fun v hv => ?_⟩
      · obtain hq | he | ⟨hfull, -⟩ := (s.stateOf_settle ⟨g, e⟩ ⟨g, e⟩).2
        · exact .inr (.inl hq)
        · exact .inr (.inr he)
        · omega
      · obtain hkept | ⟨hm, he⟩ := (s.stateOf_settle ⟨g, e⟩ v).1 hv
        · exact .inl hkept
        · exact .inr ⟨(h.queued v).mp hm, he⟩
    · rw [hwaits hs]
      exact ⟨.inl hd, fun v _ => .inl rfl⟩

/-! ## Settlements and openings in general -/

theorem alike_freeDesc (s : State) (w : WinRef) : (s.freeDesc w).Alike s :=
  s.alike_modGroup _ (GroupCtx.alike_freeDesc _ _)

theorem alike_settle (s : State) (w : WinRef) : (s.settle w).Alike s := by
  by_cases hroom : s.ana.queue.length < 16
  · exact (requeued_settle hroom w).alike
  · rw [settle_of_full (Nat.not_lt.mp hroom)]
    exact s.alike_freeDesc w

theorem alike_settleNow (s : State) (g : Group) : (s.settleNow g).Alike s := by
  unfold settleNow
  split
  · exact alike_settle _ _
  · exact .refl s

theorem alike_judgeSettlement (s : State) (g : Group) : (s.judgeSettlement g).Alike s := by
  unfold judgeSettlement
  dsimp only
  split
  · exact .refl s
  · split
    · exact alike_settle _ _
    · exact .refl s

theorem alike_discardOpen (s : State) (g : Group) : (s.discardOpen g).Alike s := by
  unfold discardOpen
  split
  · exact alike_freeDesc _ _
  · exact .refl s

theorem alike_withdrawOldest (s : State) (g : Group) : (s.withdrawOldest g).Alike s := by
  unfold withdrawOldest
  split
  · exact alike_freeDesc _ _
  · exact .refl s

/-- A window that opens rejects none. -/
theorem rejects_openWindow (s : State) (g : Group) (t : Tick) : ((s.openWindow g t).group g).rejects = (s.group g).rejects := by
  unfold openWindow
  dsimp only
  have hroom : ((if ((s.group g).descIn .free).isNone then s.withdrawOldest g else s).group g).rejects = (s.group g).rejects := by
    split
    · exact (s.alike_withdrawOldest g g).rejects
    · rfl
  split
  · rw [group_modGroup_self]
    exact hroom
  · exact hroom

/-! ## The switch that a boundary carries (R71, R72) -/

/-- What a switch of a group leaves of it, of commit control and of an armed capture (R71, R105, R120, R179, R201); `t` is
the state after, `s` the one before. -/
structure Switched (t s : State) (c : Commit) (g : Group) : Prop where
  gen : (t.group g).gen = c.stagingGen
  rejects : (t.group g).rejects = 0
  vector : t.vector g = 0
  latch : t.latch g = none
  verdict : t.ana.lastVerdicts[g] = none
  capture : t.CaptureEnded s (fun h => h = g)
  mgmt : t.mgmt = { s.mgmt with commit := some { c with switched := c.switched ||| (1#8 <<< g.val) } }

theorem switched_switchGroup {c : Commit} (h : s.mgmt.commit = some c) (g : Group) : (s.switchGroup g).Switched s c g := by
  have hto := switchGroup_switchedTo h g (into := fun k => (s.group k).state) rfl
  obtain ⟨hgen, -, hvector, hlatch, hverdict⟩ := hto.switched g rfl
  refine ⟨hgen, ?_, hvector, hlatch, hverdict, ?_, switchGroup_mgmt h g⟩
  · rw [group_switchGroup h, if_pos rfl]
  · exact hto.captureEnded (kinds := fun _ => False) .refl (fun _ hm => hm.elim) rfl

/-- A step of the Window Engine before a switch. -/
theorem Switched.after {c : Commit} (h : t.Switched u c g) (k : u.WindowStep s) : t.Switched s c g where
  gen := h.gen
  rejects := h.rejects
  vector := h.vector
  latch := h.latch
  verdict := h.verdict
  capture := ⟨fun a ha => h.capture.aborted a (k.snap ▸ ha), fun hn =>
    (h.capture.kept (fun a ha => hn a (k.snap ▸ ha))).trans k.snap⟩
  mgmt := by rw [h.mgmt, k.mgmt]

/-- A step of the Window Engine after a switch. -/
theorem Switched.then {c : Commit} (h : t.Switched s c g) (k : u.WindowStep t) (hrejects : (u.group g).rejects = (t.group g).rejects) :
    u.Switched s c g where
  gen := (k.gens g).trans h.gen
  rejects := hrejects.trans h.rejects
  vector := by
    rw [State.vector, k.chk]
    exact h.vector
  latch := by
    rw [State.latch, k.latches]
    exact h.latch
  verdict := by
    rw [k.verdicts]
    exact h.verdict
  capture := ⟨fun a ha hg => by
    rw [k.snap, k.rep]
    exact h.capture.aborted a ha hg, fun hn => k.snap.trans (h.capture.kept hn)⟩
  mgmt := k.mgmt.trans h.mgmt

end State

end Sys2Proof.Machine
end

section
/-! The boundary at a tick and the rejection of the OPEN window (R59, R67, R68, R71, R72). -/

namespace Sys2Proof.Machine

namespace GroupCtx

variable {x y : GroupCtx}

/-- The lowest-numbered of the descriptors that the property holds of. -/
def Lowest (among : Desc → Prop) (f : Desc) : Prop := among f ∧ ∀ k : Desc, k < f → ¬ among k

theorem descIn_free_iff {among : Desc → Prop} (h : ∀ k : Desc, y.descs[k].state = .free ↔ among k) {f : Desc}
    (hf : Lowest among f) : y.descIn .free = some f :=
  (y.descIn_eq_some_iff .free f).mpr ⟨(h f).mpr hf.1, fun k hk hn => hf.2 k hk ((h k).mp hn)⟩

theorem state_free_freeDesc (x : GroupCtx) (d k : Desc) :
    (x.freeDesc d).descs[k].state = .free ↔ k = d ∨ x.descs[k].state = .free := by
  rw [descs_freeDesc]
  split
  next e => exact iff_of_true rfl (.inl e)
  next e => rw [or_iff_right e]

/-- A window of a TRACKING group has opened in descriptor f (R64). -/
structure Opens (y : GroupCtx) (f : Desc) (t : Tick) (gen : Gen) (number : Half) (held : Bool) : Prop where
  state : y.state = .tracking
  arm : y.arm = false
  counter : y.counter = number + 1
  desc : ∃ received, y.descs[f] = ⟨.opened, number + 1, t, none, none, gen, received, held⟩

theorem opens_opened {f : Desc} {t : Tick} {gen : Gen} {number : Half} {held : Bool} (hstate : x.state = .tracking) (harm : x.arm = false) (hgen : x.gen = gen)
    (hnumber : x.counter = number) : (x.opened f t held).Opens f t gen number held := by
  subst hgen hnumber
  exact ⟨hstate, harm, rfl, x.counts t 256, (x.descs_opened f f t held).trans (if_pos rfl)⟩

/-- The opened window after the reference sample is recorded, field by field. -/
theorem Opens.fields {f : Desc} {t : Tick} {gen : Gen} {number : Half} {held : Bool} (h : x.Opens f t gen number held)
    (v : Int) (hy : y = { x with lastRef := some (t, v) }) :
    y.state = .tracking ∧ y.arm = false ∧ y.lastRef = some (t, v) ∧ y.counter = number + 1 ∧
      y.descs[f].state = .opened ∧ y.descs[f].number = number + 1 ∧ y.descs[f].start = t ∧
      y.descs[f].stop = none ∧ y.descs[f].len = none ∧ y.descs[f].tag = gen ∧ y.descs[f].held = held := by
  obtain ⟨received, hdesc⟩ := h.desc
  subst hy
  refine ⟨h.state, h.arm, rfl, h.counter, ?_⟩
  show x.descs[f].state = _ ∧ x.descs[f].number = _ ∧ x.descs[f].start = _ ∧ x.descs[f].stop = _ ∧ x.descs[f].len = _ ∧
    x.descs[f].tag = _ ∧ x.descs[f].held = _
  rw [hdesc]
  exact ⟨rfl, rfl, rfl, rfl, rfl, rfl, rfl⟩

end GroupCtx

namespace State

variable {s : State} {g : Group} {c : Commit}

/-! ## Boundaries -/

/-- The group with its crossing arm cleared, as a boundary begins (R59, R60). -/
def disarm (s : State) (g : Group) : State := s.modGroup g (fun x => { x with arm := false })

theorem windowStep_disarm (s : State) (g : Group) : (s.disarm g).WindowStep s :=
  s.windowStep_modGroup g (f := fun x => { x with arm := false }) rfl

theorem group_disarm (s : State) (g : Group) : (s.disarm g).group g = { s.group g with arm := false } :=
  s.group_modGroup_self g _

/-- A boundary without a switch opens the next window (R59, R60). -/
theorem boundary_stays (hstate : (s.group g).state = .tracking) (hn : s.switchPending g = false) (t : Tick) :
    s.boundary g t = (s.disarm g).openWindow g t := by
  have hswitch : (s.disarm g).boundarySwitch g = s.disarm g := boundarySwitch_of_not_pending hn
  have htrack : ((s.disarm g).group g).state = .tracking := by rw [group_disarm]; exact hstate
  unfold boundary
  dsimp only
  rw [show s.modGroup g (fun x => { x with arm := false }) = s.disarm g from rfl, hswitch, if_pos (beq_iff_eq.mpr htrack)]

/-- The group switched at a boundary (R72). -/
def boundarySwitched (s : State) (g : Group) : State := (s.disarm g).switchGroup g

theorem group_boundarySwitched (h : s.mgmt.commit = some c) (g : Group) : (s.boundarySwitched g).group g =
    { s.group g with arm := false, gen := c.stagingGen, rejects := 0 } := by
  rw [boundarySwitched, group_switchGroup (s := s.disarm g) h, if_pos rfl, group_disarm]

theorem switched_boundarySwitched (h : s.mgmt.commit = some c) (g : Group) : (s.boundarySwitched g).Switched s c g :=
  (switched_switchGroup (s := s.disarm g) h g).after (s.windowStep_disarm g)

theorem boundarySwitch_pending (h : s.mgmt.commit = some c) (hflag : GroupSet.has c.switched g = false) :
    (s.disarm g).boundarySwitch g = if s.mgmt.staging.plans[g].enabled then s.boundarySwitched g
      else ((s.boundarySwitched g).settleNow g).modGroup g GroupCtx.enterOff := by
  have hpending : (s.disarm g).switchPending g = true := by
    rw [switchPending_eq (s := s.disarm g) h, hflag]
    rfl
  have hplan : (s.boundarySwitched g).plan g = s.mgmt.staging.plans[g] :=
    (switchGroup_switchedTo (s := s.disarm g) h g (into := fun k => ((s.disarm g).group k).state) rfl).plan rfl
  rw [boundarySwitch, if_pos hpending]
  show (if ((s.boundarySwitched g).plan g).enabled then _ else _) = _
  rw [hplan]
  rfl

/-- A boundary that switches to an enabled plan opens the next window (R72). -/
theorem boundary_enabled (hstate : (s.group g).state = .tracking) (h : s.mgmt.commit = some c)
    (hflag : GroupSet.has c.switched g = false) (hplan : s.mgmt.staging.plans[g].enabled = true) (t : Tick) :
    s.boundary g t = (s.boundarySwitched g).openWindow g t := by
  have htrack : ((s.boundarySwitched g).group g).state = .tracking := by rw [group_boundarySwitched h]; exact hstate
  unfold boundary
  dsimp only
  rw [show s.modGroup g (fun x => { x with arm := false }) = s.disarm g from rfl, boundarySwitch_pending h hflag, if_pos hplan,
    if_pos (beq_iff_eq.mpr htrack)]

/-- A boundary that switches to a disabled plan takes the group into OFF (R72). -/
theorem boundary_disabled (h : s.mgmt.commit = some c) (hflag : GroupSet.has c.switched g = false)
    (hplan : s.mgmt.staging.plans[g].enabled = false) (t : Tick) :
    s.boundary g t = ((s.boundarySwitched g).settleNow g).modGroup g GroupCtx.enterOff := by
  have hoff : ((((s.boundarySwitched g).settleNow g).modGroup g GroupCtx.enterOff).group g).state ≠ .tracking := by
    rw [group_modGroup_self]
    exact fun e => by cases e
  unfold boundary
  dsimp only
  rw [show s.modGroup g (fun x => { x with arm := false }) = s.disarm g from rfl, boundarySwitch_pending h hflag,
    hplan, if_neg Bool.false_ne_true, if_neg (fun e => hoff (eq_of_beq e))]

theorem group_openWindow_free {f : Desc} (hf : (s.group g).descIn .free = some f) (t : Tick) :
    (s.openWindow g t).group g = (s.group g).opened f t s.holding := by
  rw [openWindow_free hf, group_modGroup_self]

/-- The window opened at a boundary without a switch. -/
theorem boundary_stays_opens (hstate : (s.group g).state = .tracking) (hn : s.switchPending g = false) {f : Desc}
    (hf : (s.group g).descIn .free = some f) (t : Tick) :
    s.boundary g t = s.modGroup g (fun x => ({ x with arm := false } : GroupCtx).opened f t s.holding) := by
  have hdisarmed : ((s.disarm g).group g).descIn .free = some f := by
    rw [group_disarm]
    exact hf
  rw [boundary_stays hstate hn, openWindow_free hdisarmed, disarm, modGroup_modGroup]
  rfl

/-- The window opened at a boundary that switches to an enabled plan. -/
theorem boundary_enabled_opens (hstate : (s.group g).state = .tracking) (h : s.mgmt.commit = some c)
    (hflag : GroupSet.has c.switched g = false) (hplan : s.mgmt.staging.plans[g].enabled = true) {f : Desc}
    (hf : (s.group g).descIn .free = some f) (t : Tick) : (s.boundary g t).group g =
      ({ s.group g with arm := false, gen := c.stagingGen, rejects := 0 } : GroupCtx).opened f t s.holding := by
  have hin : ((s.boundarySwitched g).group g).descIn .free = some f := by
    rw [group_boundarySwitched h]
    exact hf
  have hhold : (s.boundarySwitched g).holding = s.holding := by
    rw [holding, (switched_boundarySwitched h g).mgmt]
    rfl
  rw [boundary_enabled hstate h hflag hplan, group_openWindow_free hin, group_boundarySwitched h, hhold]

/-- What a boundary that carries a switch leaves of the group's registers (R71, R72). -/
theorem boundary_switched (hstate : (s.group g).state = .tracking) (h : s.mgmt.commit = some c)
    (hflag : GroupSet.has c.switched g = false) (t : Tick) : (s.boundary g t).Switched s c g := by
  have hswitched := switched_boundarySwitched h g
  cases hplan : s.mgmt.staging.plans[g].enabled with
  | true =>
    rw [boundary_enabled hstate h hflag hplan]
    exact hswitched.then (windowStep_openWindow _ g t) (rejects_openWindow _ g t)
  | false =>
    rw [boundary_disabled h hflag hplan]
    have hsettled := hswitched.then (windowStep_settleNow _ g) ((alike_settleNow _ g) g).rejects
    refine hsettled.then (windowStep_modGroup _ g (f := GroupCtx.enterOff) rfl) ?_
    rw [group_modGroup_self]
    rfl

/-- A boundary that switches to a disabled plan leaves no window SETTLING. -/
theorem boundary_off (hok : s.WindowsBut (some g)) (h : s.mgmt.commit = some c) (hflag : GroupSet.has c.switched g = false)
    (hplan : s.mgmt.staging.plans[g].enabled = false) (t : Tick) : ((s.boundary g t).group g).state = .off ∧
      ∀ k : Desc, (s.boundary g t).stateOf ⟨g, k⟩ ≠ .settling := by
  have hswitched : (s.boundarySwitched g).WindowsBut (some g) :=
    (hok.modGroup (f := fun x => { x with arm := false }) (fun _ _ => rfl)).switchGroup g
  have hnone := hswitched.settled g
  rw [boundary_disabled h hflag hplan]
  generalize (s.boundarySwitched g).settleNow g = u at hnone ⊢
  refine ⟨by rw [group_modGroup_self]; rfl, fun k => ?_⟩
  rw [u.stateOf_modGroup_same g (f := GroupCtx.enterOff) (fun _ => rfl)]
  exact hnone k

/-! ## The rejection of the OPEN window (R59) -/

/-- The OPEN window rejected, ahead of the boundary or the entry into BLIND (R59). -/
def rejected (s : State) (g : Group) (d : Desc) : State :=
  ((s.freeDesc ⟨g, d⟩).raiseDetail .windowRejected (.windowRejected g (s.group g).descs[d].number)).modGroup g
    (fun x => { x with rejects := x.rejects + 1 })

theorem group_rejected (s : State) (g : Group) (d : Desc) : (s.rejected g d).group g =
    { (s.group g).freeDesc d with rejects := (s.group g).rejects + 1 } := by
  have hfreed : ((s.freeDesc ⟨g, d⟩).raiseDetail .windowRejected (.windowRejected g (s.group g).descs[d].number)).group g =
      (s.group g).freeDesc d := s.group_modGroup_self g (fun x => x.freeDesc d)
  rw [rejected, group_modGroup_self, hfreed, ((s.group g).alike_freeDesc d).rejects]

theorem state_rejected (s : State) (g : Group) (d : Desc) : ((s.rejected g d).group g).state = (s.group g).state := by
  obtain ⟨store, h⟩ := (s.group g).freeDesc_eq d
  rw [group_rejected, h]
  rfl

theorem windowStep_rejected (s : State) (g : Group) (d : Desc) : (s.rejected g d).WindowStep s :=
  ((windowStep_modGroup _ g (f := fun x => { x with rejects := x.rejects + 1 }) rfl).trans
    (windowStep_raiseDetail _ _ _)).trans (windowStep_freeDesc s ⟨g, d⟩)

theorem raised_rejected (s : State) (g : Group) (d : Desc) :
    KindSet.has (s.rejected g d).disp.pending .windowRejected = true :=
  raised_raiseDetail_self (s.freeDesc ⟨g, d⟩) .windowRejected _

theorem windowsBut_rejected (h : s.WindowsBut none) {d : Desc} (hd : s.stateOf ⟨g, d⟩ = .opened) :
    (s.rejected g d).WindowsBut none := by
  have hfreed : (s.freeDesc ⟨g, d⟩).WindowsBut none := h.freeDesc (by rw [hd]; decide) (by rw [hd]; decide)
  exact (hfreed.of_ana (t := (s.freeDesc ⟨g, d⟩).raiseDetail .windowRejected
    (.windowRejected g (s.group g).descs[d].number)) rfl).modGroup_same g (f := fun x => { x with rejects := x.rejects + 1 })
      (fun _ _ => rfl) (fun _ => rfl)

/-- The third rejection in a row enters BLIND (R68). -/
theorem rejectWindow_eq (s : State) (g : Group) (d : Desc) (t : Tick) : s.rejectWindow g d t =
    if (s.group g).rejects < 2 then (s.rejected g d).boundary g t else (s.rejected g d).enterBlind g := by
  have hrejects : ((s.rejected g d).group g).rejects = (s.group g).rejects + 1 := by rw [group_rejected]
  have hbound : ((s.rejected g d).group g).rejects < 3 ↔ (s.group g).rejects < 2 := by
    rw [hrejects]
    omega
  exact (if_congr hbound rfl rfl :
    (if ((s.rejected g d).group g).rejects < 3 then (s.rejected g d).boundary g t else (s.rejected g d).enterBlind g) = _)

/-- A rejection that opens the next window, with no switch (R59). -/
theorem rejectWindow_opens (hstate : (s.group g).state = .tracking) (hn : s.switchPending g = false) {d f : Desc}
    (hr : (s.group g).rejects < 2) (hf : GroupCtx.Lowest (fun k => k = d ∨ (s.group g).descs[k].state = .free) f) (t : Tick) :
    let z := s.rejectWindow g d t
    (z.group g).Opens f t (s.group g).gen (s.group g).counter s.holding ∧
      (z.group g).rejects = (s.group g).rejects + 1 ∧
      (∀ k : Desc, k ≠ d → k ≠ f → (z.group g).descs[k] = (s.group g).descs[k]) ∧
      (d ≠ f → (z.group g).descs[d].state = .free) ∧ z.ana.queue = s.ana.queue ∧ z.rep = s.rep ∧
      z.disp = s.disp.raiseDetail .windowRejected (.windowRejected g (s.group g).descs[d].number) := by
  intro z
  have hstep := s.windowStep_rejected g d
  have hfree : ((s.rejected g d).group g).descIn .free = some f := by
    rw [group_rejected]
    exact GroupCtx.descIn_free_iff (fun k => (s.group g).state_free_freeDesc d k) hf
  have hopens := boundary_stays_opens ((s.state_rejected g d).trans hstate)
    (by rw [switchPending, hstep.mgmt]; exact hn) hfree t
  have hhold : (s.rejected g d).holding = s.holding := by rw [holding, hstep.mgmt]; rfl
  have hz : z = _ := ((s.rejectWindow_eq g d t).trans (if_pos hr)).trans hopens
  have hgroup : z.group g = ({ (s.group g).freeDesc d with
      rejects := (s.group g).rejects + 1, arm := false } : GroupCtx).opened f t s.holding := by
    rw [hz, group_modGroup_self, group_rejected, hhold]
  obtain ⟨store, hfreed⟩ := (s.group g).freeDesc_eq d
  rw [hgroup, hz]
  refine ⟨?_, rfl, fun k hkd hkf => ?_, fun hdf => ?_, rfl, hstep.rep, rfl⟩
  · rw [hfreed]
    exact GroupCtx.opens_opened hstate rfl rfl rfl
  · rw [GroupCtx.descs_opened, if_neg hkf]
    exact ((s.group g).descs_freeDesc d k).trans (if_neg hkd)
  · rw [GroupCtx.descs_opened, if_neg hdf]
    exact congrArg Descriptor.state (((s.group g).descs_freeDesc d d).trans (if_pos rfl))

/-- Entry into BLIND keeps a group's counters. -/
theorem blinded_counters (s : State) (g : Group) : ((s.blinded g).group g).counter = (s.group g).counter ∧
    ((s.blinded g).group g).rejects = (s.group g).rejects := by
  have hstart : (s.blindStart g).group g = { s.group g with state := .blind } :=
    (s.group_blindStart g g).trans (if_pos rfl)
  have hopen : (s.blindOpen g).Alike (s.blindStart g) := alike_discardOpen _ g
  have hsettled := (s.blindOpen g).alike_settleNow g
  rw [blinded_eq]
  generalize (s.blindOpen g).settleNow g = u at hsettled ⊢
  generalize s.blindOpen g = w at hopen hsettled
  generalize s.blindStart g = z at hstart hopen
  have halike := (hsettled.trans hopen) g
  rw [hstart] at halike
  rw [group_modGroup_self]
  exact ⟨halike.counter, halike.rejects⟩

/-- Entry into BLIND leaves no window of the group SETTLING. -/
theorem blinded_settled (h : s.WindowsBut none) (g : Group) (k : Desc) : (s.blinded g).stateOf ⟨g, k⟩ ≠ .settling := by
  have hnone := (stateOf_blindOpen h g).1.settled g k
  rw [blinded_eq]
  generalize (s.blindOpen g).settleNow g = u at hnone ⊢
  rw [u.stateOf_modGroup_same g (f := fun x => { x with arm := false }) (fun _ => rfl)]
  exact hnone

/-- The third rejection in a row, with no switch (R59, R67, R68). -/
theorem rejectWindow_blind (h : s.WindowsBut none) {d : Desc} (hd : s.stateOf ⟨g, d⟩ = .opened) (hn : s.switchPending g = false)
    (hr : 2 ≤ (s.group g).rejects) (t : Tick) :
    let z := s.rejectWindow g d t
    (z.group g).state = .blind ∧ (z.group g).arm = false ∧ (z.group g).counter = (s.group g).counter ∧
      (z.group g).rejects = (s.group g).rejects + 1 ∧ (∀ k : Desc, z.stateOf ⟨g, k⟩ ≠ .settling) ∧
      KindSet.has z.disp.pending .windowRejected = true ∧ KindSet.has z.disp.pending .groupBlind = true := by
  intro z
  have hpending : (s.rejected g d).switchPending g = false := by
    rw [switchPending, (s.windowStep_rejected g d).mgmt]
    exact hn
  have hz : z = (s.rejected g d).blinded g :=
    ((s.rejectWindow_eq g d t).trans (if_neg (Nat.not_lt.mpr hr))).trans (enterBlind_of_not_pending hpending)
  have hcounter : ((s.rejected g d).group g).counter = (s.group g).counter := by
    rw [group_rejected]
    exact ((s.group g).alike_freeDesc d).counter
  have hrejects : ((s.rejected g d).group g).rejects = (s.group g).rejects + 1 := by rw [group_rejected]
  obtain ⟨hstate, harm, hblind⟩ := (s.rejected g d).blinded_self g
  obtain ⟨kcounter, krejects⟩ := (s.rejected g d).blinded_counters g
  rw [hz]
  exact ⟨hstate, harm, kcounter.trans hcounter, krejects.trans hrejects, blinded_settled (windowsBut_rejected h hd) g,
    (windowStep_blinded _ g).raised _ (s.raised_rejected g d), hblind⟩

/-- A rejection before the third, with a switch (R59, R72). -/
theorem rejectWindow_switched (h : s.WindowsBut none) (hstate : (s.group g).state = .tracking) {d : Desc}
    (hd : s.stateOf ⟨g, d⟩ = .opened) (hc : s.mgmt.commit = some c) (hflag : GroupSet.has c.switched g = false)
    (hr : (s.group g).rejects < 2) (t : Tick) :
    let z := s.rejectWindow g d t
    z.Switched s c g ∧
      (s.mgmt.staging.plans[g].enabled = true → ∀ f : Desc,
        GroupCtx.Lowest (fun k => k = d ∨ (s.group g).descs[k].state = .free) f →
          (z.group g).Opens f t c.stagingGen (s.group g).counter s.holding) ∧
      (s.mgmt.staging.plans[g].enabled = false → (z.group g).state = .off ∧ ∀ k : Desc, z.stateOf ⟨g, k⟩ ≠ .settling) := by
  intro z
  have hstep := s.windowStep_rejected g d
  have hz : z = (s.rejected g d).boundary g t := (s.rejectWindow_eq g d t).trans (if_pos hr)
  have htrack := (s.state_rejected g d).trans hstate
  have hcommit : (s.rejected g d).mgmt.commit = some c := by rw [hstep.mgmt]; exact hc
  have hhold : (s.rejected g d).holding = s.holding := by rw [holding, hstep.mgmt]; rfl
  have hplan : (s.rejected g d).mgmt.staging = s.mgmt.staging := by rw [hstep.mgmt]
  rw [hz]
  refine ⟨(boundary_switched htrack hcommit hflag t).after hstep, fun hen f hf => ?_, fun hoff => ?_⟩
  · have hfree : ((s.rejected g d).group g).descIn .free = some f := by
      rw [group_rejected]
      exact GroupCtx.descIn_free_iff (fun k => (s.group g).state_free_freeDesc d k) hf
    obtain ⟨store, hfreed⟩ := (s.group g).freeDesc_eq d
    rw [boundary_enabled_opens htrack hcommit hflag (by rw [hplan]; exact hen) hfree t, hhold, group_rejected, hfreed]
    exact GroupCtx.opens_opened hstate rfl rfl rfl
  · exact boundary_off ((windowsBut_rejected h hd).exempt g) hcommit hflag (by rw [hplan]; exact hoff) t

/-- The third rejection in a row, with a switch (R59, R67, R68, R72). -/
theorem rejectWindow_blind_switched (h : s.WindowsBut none) {d : Desc} (hd : s.stateOf ⟨g, d⟩ = .opened)
    (hc : s.mgmt.commit = some c) (hflag : GroupSet.has c.switched g = false) (hr : 2 ≤ (s.group g).rejects) (t : Tick) :
    let z := s.rejectWindow g d t
    z.Switched s c g ∧ (z.group g).state = (if s.mgmt.staging.plans[g].enabled then .seeking else .off) ∧
      (∀ k : Desc, z.stateOf ⟨g, k⟩ ≠ .settling) ∧ KindSet.has z.disp.pending .groupBlind = true := by
  intro z
  have hstep := ((s.rejected g d).windowStep_blinded g).trans (s.windowStep_rejected g d)
  obtain ⟨-, -, hblind⟩ := (s.rejected g d).blinded_self g
  have hsettled := blinded_settled (windowsBut_rejected h hd) g
  have henter : (s.rejected g d).enterBlind g = if ((s.rejected g d).blinded g).switchPending g then
      (((s.rejected g d).blinded g).switchGroup g).takeSeekOrOff g else (s.rejected g d).blinded g := rfl
  have hz : z = _ := ((s.rejectWindow_eq g d t).trans (if_neg (Nat.not_lt.mpr hr))).trans henter
  generalize (s.rejected g d).blinded g = u at hstep hblind hsettled hz
  have hcommit : u.mgmt.commit = some c := by rw [hstep.mgmt]; exact hc
  have hpending : u.switchPending g = true := by
    rw [switchPending_eq hcommit, hflag]
    rfl
  rw [if_pos hpending] at hz
  have hto := switchSeekOrOff_switchedTo hcommit g (into := fun _ => if u.mgmt.staging.plans[g].enabled then .seeking else .off) rfl
  rw [hz]
  refine ⟨?_, ?_, fun k => ?_, ?_⟩
  · have hswitched := (switched_switchGroup hcommit g).after hstep
    refine hswitched.then (windowStep_takeSeekOrOff _ g) ?_
    have hrejects := hswitched.rejects
    generalize u.switchGroup g = w at hrejects ⊢
    rw [takeSeekOrOff, group_modGroup_self, hrejects]
    unfold GroupCtx.seekOrOff
    split
    · rfl
    · exact hrejects
  · obtain ⟨-, hinto, -⟩ := hto.switched g rfl
    rw [hinto, hstep.mgmt]
  · rw [takeSeekOrOff, stateOf_modGroup_same _ g (fun _ => by rw [GroupCtx.seekOrOff_descs]), (u.switchGroup_windows g).1]
    exact hsettled k
  · rw [hto.disp]
    exact hblind

end State

end Sys2Proof.Machine
end

section
/-! The close of the OPEN window and the whole of a reference sample examined in TRACKING (R57, R59, R60, R64, R68, R72). -/

namespace Sys2Proof.Machine

namespace GroupCtx

/-- The group with its OPEN window closed at a tick (R60). -/
def closing (x : GroupCtx) (d : Desc) (t : Tick) : GroupCtx :=
  { x.setDesc d { x.descs[d] with
      state := .settling, stop := some t, len := some (t - x.descs[d].start).toNat,
      received := x.counts x.descs[d].start (t - x.descs[d].start).toNat } with rejects := 0 }

theorem descs_closing (x : GroupCtx) (d : Desc) (t : Tick) (k : Desc) : (x.closing d t).descs[k] = if k = d then
    { x.descs[d] with
      state := .settling, stop := some t, len := some (t - x.descs[d].start).toNat,
      received := x.counts x.descs[d].start (t - x.descs[d].start).toNat } else x.descs[k] :=
  x.descs_setDesc d k _

/-- The window w has closed in descriptor d at a tick, and has not been freed (R60). -/
structure Closed (y : GroupCtx) (d : Desc) (w : Descriptor) (t : Tick) : Prop where
  stop : y.descs[d].stop = some t
  len : y.descs[d].len = some (t - w.start).toNat
  number : y.descs[d].number = w.number
  tag : y.descs[d].tag = w.tag
  underWay : y.descs[d].state = .settling ∨ y.descs[d].state = .queued ∨ y.descs[d].state = .evaluating

/-- The closed window after the reference sample is recorded, field by field. -/
theorem Closed.fields {x y : GroupCtx} {d : Desc} {w : Descriptor} {t u : Tick} {v : Int} (h : x.Closed d w t)
    (hy : y = { x with lastRef := some (u, v) }) :
    y.descs[d].stop = some t ∧ y.descs[d].len = some (t - w.start).toNat ∧ y.descs[d].number = w.number ∧
      y.descs[d].tag = w.tag ∧
      (y.descs[d].state = .settling ∨ y.descs[d].state = .queued ∨ y.descs[d].state = .evaluating) := by
  subst hy
  exact ⟨h.stop, h.len, h.number, h.tag, h.underWay⟩

end GroupCtx

namespace State

variable {s : State} {g : Group} {c : Commit}

/-! ## The close, ahead of the boundary -/

/-- The OPEN window closed, ahead of the boundary (R60). -/
def closingWindow (s : State) (g : Group) (d : Desc) (t : Tick) : State := (s.settleNow g).modGroup g (fun x => x.closing d t)

theorem holding_settleNow (s : State) (g : Group) : (s.settleNow g).holding = s.holding := by
  rw [holding, (s.windowStep_settleNow g).mgmt]
  rfl

theorem closeWindow_eq (s : State) (g : Group) (d : Desc) (t : Tick) : s.closeWindow g d t =
    ((if s.holding then (s.settleNow g).freeDesc ⟨g, d⟩ else s.closingWindow g d t).boundary g t).judgeSettlement g := rfl

theorem closeWindow_free (h : s.mgmt.hold = none) (g : Group) (d : Desc) (t : Tick) :
    s.closeWindow g d t = ((s.closingWindow g d t).boundary g t).judgeSettlement g := by
  rw [closeWindow_eq, holding, h, Option.isSome_none, if_neg Bool.false_ne_true]

/-- Under a hold the OPEN window is discarded (R60). -/
theorem closeWindow_held (h : s.mgmt.hold ≠ none) (g : Group) (d : Desc) (t : Tick) :
    s.closeWindow g d t = (((s.settleNow g).freeDesc ⟨g, d⟩).boundary g t).judgeSettlement g := by
  rw [closeWindow_eq, holding, if_pos (Option.isSome_iff_ne_none.mpr h)]

theorem windowStep_closingWindow (s : State) (g : Group) (d : Desc) (t : Tick) : (s.closingWindow g d t).WindowStep s :=
  ((s.settleNow g).windowStep_modGroup g (f := fun x => x.closing d t) rfl).trans (s.windowStep_settleNow g)

/-- The close of the OPEN window of a group whose SETTLING window has settled into the queue; `c` is the state after, `s`
the one before. -/
structure ClosedFrom (z s : State) (g : Group) (d : Desc) (t : Tick) : Prop where
  step : z.WindowStep s
  ok : z.WindowsBut none
  noneOpen : z.noneOpen g
  disp : z.disp = s.disp
  queue : z.ana.queue = (s.settleNow g).ana.queue
  free : ∀ k : Desc, (z.group g).descs[k].state = .free ↔ (s.group g).descs[k].state = .free
  state : (z.group g).state = (s.group g).state
  counter : (z.group g).counter = (s.group g).counter
  rejects : (z.group g).rejects = 0
  closed : (z.group g).descs[d] = { (s.group g).descs[d] with
    state := .settling, stop := some t, len := some (t - (s.group g).descs[d].start).toNat,
    received := (s.group g).counts (s.group g).descs[d].start (t - (s.group g).descs[d].start).toNat }
  others : ∀ k : Desc, k ≠ d → z.stateOf ⟨g, k⟩ = (s.settleNow g).stateOf ⟨g, k⟩

theorem closedFrom_closingWindow (h : s.WindowsBut none) {d : Desc} (hd : s.stateOf ⟨g, d⟩ = .opened)
    (hqueued : (s.settleNow g).Requeued s)
    (hfree : ∀ k : Desc, (s.settleNow g).stateOf ⟨g, k⟩ = .free ↔ s.stateOf ⟨g, k⟩ = .free) (t : Tick) :
    (s.closingWindow g d t).ClosedFrom s g d t := by
  have hstep := s.windowStep_closingWindow g d t
  have hopen : (s.settleNow g).stateOf ⟨g, d⟩ = .opened :=
    (h.stateOf_settleNow g (by rw [hd]; decide) (by rw [hd]; decide)).trans hd
  have hdesc : ((s.settleNow g).group g).descs[d] = (s.group g).descs[d] := hqueued.desc_eq (hopen.trans hd.symm)
  have hstore := hqueued.store g
  have halike := hqueued.alike g
  have hstate : ((s.settleNow g).group g).state = (s.group g).state := s.state_settleNow g g
  have hgroup : (s.closingWindow g d t).group g = ((s.settleNow g).group g).closing d t := group_modGroup_self _ g _
  have hdescs := fun k => (congrArg (fun x : GroupCtx => x.descs[k]) hgroup).trans
    (((s.settleNow g).group g).descs_closing d t k)
  obtain ⟨hok, hnone⟩ := (h.settleNow g).closeOpen (f := fun x => x.closing d t) hopen (h.settled g) rfl
    (fun k => ((s.settleNow g).group g).descs_closing d t k) rfl
  refine ⟨hstep, hok, hnone, hqueued.disp, rfl, fun k => ?_, (congrArg GroupCtx.state hgroup).trans hstate,
    (congrArg GroupCtx.counter hgroup).trans halike.counter, congrArg GroupCtx.rejects hgroup, ?_, fun k hk => ?_⟩
  · rw [hdescs k]
    split
    next e =>
      rw [e]
      exact iff_of_false (fun hf => by cases hf) (fun hf => by rw [stateOf, hf] at hd; cases hd)
    next => exact hfree k
  · rw [hdescs d, if_pos rfl, hdesc, GroupCtx.counts, hstore]
    rfl
  · exact congrArg Descriptor.state ((hdescs k).trans (if_neg hk))

/-- With room in the queue every close is one after which the SETTLING window is under way (R60, R63). -/
theorem closedFrom_room (h : s.WindowsBut none) {d : Desc} (hd : s.stateOf ⟨g, d⟩ = .opened) (hroom : s.ana.queue.length < 16)
    (t : Tick) : (s.closingWindow g d t).ClosedFrom s g d t :=
  closedFrom_closingWindow h hd (requeued_settleNow hroom g) (fun k => (settleNow_room h hroom g k).2) t

/-! ## The settlement judged after the boundary -/

/-- The close completed: the next window open, the closed one under way (R60, R63). -/
theorem judge_closed {b : State} (hok : b.WindowsBut none) (hroom : b.ana.queue.length < 16) {d f : Desc} {w : Descriptor}
    {t : Tick} {gen : Gen} {number : Half} {held : Bool} {received : Vector Nat 8}
    (hopens : (b.group g).Opens f t gen number held) (hclosed : (b.group g).descs[d] = { w with
      state := .settling, stop := some t, len := some (t - w.start).toNat, received := received }) :
    let z := b.judgeSettlement g
    (z.group g).Opens f t gen number held ∧ (z.group g).Closed d w t ∧ (z.group g).descs[d].received = received ∧
      z.Requeued b ∧ ∀ v : WinRef, v ≠ ⟨g, d⟩ → z.Moved b v := by
  intro z
  obtain ⟨hstate, harm, hcounter, received', hdesc⟩ := hopens
  have hset : b.stateOf ⟨g, d⟩ = .settling := congrArg Descriptor.state hclosed
  have hopen : b.stateOf ⟨g, f⟩ = .opened := congrArg Descriptor.state hdesc
  have hqueued := b.requeued_judgeSettlement hroom g
  obtain ⟨hway, hmoved⟩ := judgeSettlement_room hok hroom hset
  have hfd : (⟨g, f⟩ : WinRef) ≠ ⟨g, d⟩ := fun e => by rw [e, hset] at hopen; cases hopen
  have hkept : z.stateOf ⟨g, f⟩ = b.stateOf ⟨g, f⟩ := (hmoved ⟨g, f⟩ hfd).eq (by rw [hopen]; decide)
  have hgroup := hqueued.groups g
  have hdescs := hqueued.descs g d
  rw [hclosed] at hdescs
  refine ⟨⟨?_, ?_, ?_, received', (hqueued.desc_eq hkept).trans hdesc⟩, ⟨?_, ?_, ?_, ?_, hway⟩, ?_, hqueued, hmoved⟩
  · exact (congrArg GroupCtx.state hgroup :).trans hstate
  · exact (congrArg GroupCtx.arm hgroup :).trans harm
  · exact (congrArg GroupCtx.counter hgroup :).trans hcounter
  · exact (congrArg Descriptor.stop hdescs :)
  · exact (congrArg Descriptor.len hdescs :)
  · exact (congrArg Descriptor.number hdescs :)
  · exact (congrArg Descriptor.tag hdescs :)
  · exact (congrArg Descriptor.received hdescs :)

/-- A close that opens the next window, with no hold and no switch (R60). -/
theorem closeWindow_opens (h : s.WindowsBut none) (hstate : (s.group g).state = .tracking) (hn : s.switchPending g = false)
    {d e : Desc} (hd : s.stateOf ⟨g, d⟩ = .opened) (hhold : s.mgmt.hold = none) (hroom : s.ana.queue.length < 15)
    (he : GroupCtx.Lowest (fun k => (s.group g).descs[k].state = .free) e) (t : Tick) :
    let z := s.closeWindow g d t
    (z.group g).Opens e t (s.group g).gen (s.group g).counter s.holding ∧ (z.group g).Closed d (s.group g).descs[d] t ∧
      (z.group g).rejects = 0 ∧ z.disp = s.disp ∧
      (z.group g).descs[d].received = (s.group g).counts (s.group g).descs[d].start (t - (s.group g).descs[d].start).toNat ∧
      ∀ k : Desc, s.stateOf ⟨g, k⟩ = .settling → z.stateOf ⟨g, k⟩ = .queued ∨ z.stateOf ⟨g, k⟩ = .evaluating := by
  intro z
  have hclosing := closedFrom_room h hd (Nat.lt_succ_of_lt hroom) t
  have hz : z = ((s.closingWindow g d t).boundary g t).judgeSettlement g := closeWindow_free hhold g d t
  have hlength : (s.closingWindow g d t).ana.queue.length < 16 := by
    rw [hclosing.queue]
    exact ((settleNow_moves h g).1.trans_lt (Nat.succ_lt_succ hroom))
  have hsettled : ∀ k, s.stateOf ⟨g, k⟩ = .settling → (s.closingWindow g d t).stateOf ⟨g, k⟩ = .queued ∨
      (s.closingWindow g d t).stateOf ⟨g, k⟩ = .evaluating := fun k hk => by
    rw [hclosing.others k (fun e => by rw [e, hd] at hk; cases hk)]
    exact (settleNow_room h (Nat.lt_succ_of_lt hroom) g k).1 hk
  generalize s.closingWindow g d t = u at hclosing hz hlength hsettled
  have hpending : u.switchPending g = false := by rw [switchPending, hclosing.step.mgmt]; exact hn
  have hholding : u.holding = s.holding := by rw [holding, hclosing.step.mgmt]; rfl
  have hopens := boundary_stays_opens (hclosing.state.trans hstate) hpending (GroupCtx.descIn_free_iff hclosing.free he) t
  have hok := (hclosing.ok.exempt g).boundary hclosing.noneOpen t
  have hne : ∀ k, s.stateOf ⟨g, k⟩ ≠ .free → k ≠ e := fun k hk hke => hk (hke ▸ he.1)
  have hgroup : (u.boundary g t).group g = ({ u.group g with arm := false } : GroupCtx).opened e t s.holding := by
    rw [hopens, group_modGroup_self, hholding]
  have hqueue : (u.boundary g t).ana.queue = u.ana.queue := by rw [hopens]; rfl
  have hdisp : (u.boundary g t).disp = s.disp := by rw [hopens]; exact hclosing.disp
  have hkept : ∀ k, k ≠ e → (u.boundary g t).stateOf ⟨g, k⟩ = u.stateOf ⟨g, k⟩ := fun k hk => by
    rw [stateOf, hgroup, GroupCtx.descs_opened, if_neg hk]
    rfl
  have hdesc : ((u.boundary g t).group g).descs[d] = (u.group g).descs[d] := by
    rw [hgroup, GroupCtx.descs_opened, if_neg (hne d (by rw [hd]; decide))]
  have hrejects : ((u.boundary g t).group g).rejects = 0 := by rw [hgroup]; exact hclosing.rejects
  have hnext : ((u.boundary g t).group g).Opens e t (s.group g).gen (s.group g).counter s.holding := by
    rw [hgroup]
    exact GroupCtx.opens_opened (hclosing.state.trans hstate) rfl (hclosing.step.gens g) hclosing.counter
  rw [← hqueue] at hlength
  generalize u.boundary g t = b at *
  obtain ⟨zopens, zclosed, zreceived, zqueued, zmoved⟩ := judge_closed hok hlength hnext (hdesc.trans hclosing.closed)
  rw [hz]
  refine ⟨zopens, zclosed, (zqueued.alike g).rejects.trans hrejects, zqueued.disp.trans hdisp, zreceived, fun k hk => ?_⟩
  have hkd : (⟨g, k⟩ : WinRef) ≠ ⟨g, d⟩ := fun e => by rw [e, hd] at hk; cases hk
  have hway := hsettled k hk
  rw [← hkept k (hne k (by rw [hk]; decide))] at hway
  obtain hsame | ⟨-, htaken⟩ := zmoved ⟨g, k⟩ hkd
  · rw [hsame]
    exact hway
  · exact .inr htaken

/-- A close that withdraws the oldest QUEUED window for the next one (R60, R64). -/
theorem closeWindow_withdraws (h : s.WindowsBut none) (hstate : (s.group g).state = .tracking) (hn : s.switchPending g = false)
    {d : Desc} (hd : s.stateOf ⟨g, d⟩ = .opened) (hhold : s.mgmt.hold = none)
    (hfull : ∀ k : Desc, (s.group g).descs[k].state ≠ .free) (hnone : ∀ k : Desc, (s.group g).descs[k].state ≠ .settling)
    {q : WinRef} (hq : s.ana.queue.find? (fun a => a.group == g) = some q) (t : Tick) :
    let z := s.closeWindow g d t
    (z.group g).Opens q.desc t (s.group g).gen (s.group g).counter s.holding ∧
      (z.group g).Closed d (s.group g).descs[d] t ∧ (z.group g).rejects = 0 ∧
      KindSet.has z.disp.pending .evaluationOverrun = true := by
  intro z
  have hsettled : s.settleNow g = s := settleNow_none hnone
  have hclosing := closedFrom_closingWindow h hd (by rw [hsettled]; exact .refl s) (fun k => by rw [hsettled]) t
  have hz : z = ((s.closingWindow g d t).boundary g t).judgeSettlement g := closeWindow_free hhold g d t
  have hmem : q ∈ s.ana.queue := List.mem_of_find?_eq_some hq
  have hqueued : s.stateOf q = .queued := (h.queued q).mp hmem
  have hqueue : (s.closingWindow g d t).ana.queue = s.ana.queue := by rw [hclosing.queue, hsettled]
  generalize s.closingWindow g d t = u at hclosing hz hqueue
  have hpending : u.switchPending g = false := by rw [switchPending, hclosing.step.mgmt]; exact hn
  have hholding : (u.disarm g).holding = s.holding := by
    rw [holding, (u.windowStep_disarm g).mgmt, hclosing.step.mgmt]
    rfl
  have hfind : (u.disarm g).ana.queue.find? (fun a => a.group == g) = some q :=
    (congrArg (fun l : List WinRef => l.find? (fun a => a.group == g)) hqueue).trans hq
  obtain ⟨hopen, hgroup⟩ := openWindow_withdrawn (s := u.disarm g)
    (fun k hk => hfull k ((hclosing.free k).mp (by rw [group_disarm] at hk; exact hk))) hfind t
  obtain ⟨hqg, hwithdrawn⟩ := withdrawOldest_some hfind
  have hboundary := (boundary_stays (hclosing.state.trans hstate) hpending t).trans hopen
  have hok := (hclosing.ok.exempt g).boundary hclosing.noneOpen t
  have hdq : d ≠ q.desc := fun e => by
    rw [show q = ⟨g, d⟩ from WinRef.eq_iff.mpr ⟨hqg, e.symm⟩, hd] at hqueued
    cases hqueued
  rw [hholding] at hboundary
  have hbgroup : (u.boundary g t).group g =
      (({ u.group g with arm := false } : GroupCtx).freeDesc q.desc).opened q.desc t s.holding := by
    rw [hboundary, group_modGroup_self, hgroup, group_disarm]
  obtain ⟨store, hfreed⟩ := ({ u.group g with arm := false } : GroupCtx).freeDesc_eq q.desc
  have hdesc : ((u.boundary g t).group g).descs[d] = (u.group g).descs[d] := by
    rw [hbgroup, GroupCtx.descs_opened, if_neg hdq, GroupCtx.descs_freeDesc, if_neg hdq]
  have hrejects : ((u.boundary g t).group g).rejects = 0 := by
    rw [hbgroup, hfreed]
    exact hclosing.rejects
  have hnext : ((u.boundary g t).group g).Opens q.desc t (s.group g).gen (s.group g).counter s.holding := by
    rw [hbgroup, hfreed]
    exact GroupCtx.opens_opened (hclosing.state.trans hstate) rfl (hclosing.step.gens g) hclosing.counter
  have hlength : (u.boundary g t).ana.queue.length < 16 := by
    have herased : (u.boundary g t).ana.queue = u.ana.queue.erase q := by
      rw [hboundary, hwithdrawn]
      rfl
    have hpos := List.length_pos_of_mem hmem
    have hbound := h.room
    rw [herased, hqueue, List.length_erase_of_mem hmem]
    omega
  have hraised : KindSet.has (u.boundary g t).disp.pending .evaluationOverrun = true := by
    rw [hboundary, hwithdrawn]
    exact raised_raise_self _ _
  generalize u.boundary g t = b at hok hdesc hrejects hnext hlength hraised hz
  obtain ⟨zopens, zclosed, -, zqueued, -⟩ := judge_closed hok hlength hnext (hdesc.trans hclosing.closed)
  rw [hz]
  refine ⟨zopens, zclosed, (zqueued.alike g).rejects.trans hrejects, ?_⟩
  rw [zqueued.disp]
  exact hraised

/-- A close under a hold, with no switch: the window is discarded (R60). -/
theorem closeWindow_holds (h : s.WindowsBut none) (hstate : (s.group g).state = .tracking) (hn : s.switchPending g = false)
    {d f : Desc} (hhold : s.mgmt.hold ≠ none) (hroom : s.ana.queue.length < 16)
    (hf : GroupCtx.Lowest (fun k => k = d ∨ (s.group g).descs[k].state = .free) f) (t : Tick) :
    let z := s.closeWindow g d t
    (z.group g).Opens f t (s.group g).gen (s.group g).counter s.holding ∧ (z.group g).rejects = (s.group g).rejects ∧
      (d ≠ f → z.stateOf ⟨g, d⟩ = .free) ∧ z.disp = s.disp ∧ z.rep = s.rep ∧
      ((s.group g).descIn .settling = none → z.ana.queue = s.ana.queue ∧ z.ana.engine = s.ana.engine) := by
  intro z
  have hqueued := requeued_settleNow hroom g
  have hfree := fun k => (settleNow_room h hroom g k).2
  have hsettled := h.settled g
  have hz : z = (((s.settleNow g).freeDesc ⟨g, d⟩).boundary g t).judgeSettlement g := closeWindow_held hhold g d t
  have hnone : (s.group g).descIn .settling = none → s.settleNow g = s := fun hno =>
    settleNow_none (((s.group g).descIn_eq_none_iff _).mp hno)
  have hstep := s.windowStep_settleNow g
  have hsame : ((s.settleNow g).group g).state = (s.group g).state := s.state_settleNow g g
  generalize s.settleNow g = u at hqueued hfree hsettled hz hnone hstep hsame
  have hfreeStep := (u.windowStep_freeDesc ⟨g, d⟩).trans hstep
  have hgroup : (u.freeDesc ⟨g, d⟩).group g = (u.group g).freeDesc d := u.group_modGroup_self g (fun x => x.freeDesc d)
  have hpending : (u.freeDesc ⟨g, d⟩).switchPending g = false := by rw [switchPending, hfreeStep.mgmt]; exact hn
  have hholding : (u.freeDesc ⟨g, d⟩).holding = s.holding := by rw [holding, hfreeStep.mgmt]; rfl
  have htrack : ((u.freeDesc ⟨g, d⟩).group g).state = .tracking := (u.state_freeDesc ⟨g, d⟩ g).trans (hsame.trans hstate)
  have hin : ((u.freeDesc ⟨g, d⟩).group g).descIn .free = some f := by
    rw [hgroup]
    exact GroupCtx.descIn_free_iff (fun k => ((u.group g).state_free_freeDesc d k).trans (or_congr_right (hfree k))) hf
  have hopens := boundary_stays_opens htrack hpending hin t
  rw [hholding] at hopens
  have hbgroup : ((u.freeDesc ⟨g, d⟩).boundary g t).group g =
      ({ (u.group g).freeDesc d with arm := false } : GroupCtx).opened f t s.holding := by
    rw [hopens, group_modGroup_self, hgroup]
  have hunsettled : ∀ k : Desc, (((u.freeDesc ⟨g, d⟩).boundary g t).group g).descs[k].state ≠ .settling := fun k => by
    rw [hbgroup, GroupCtx.descs_opened]
    split
    · exact fun hs => by cases hs
    · show ((u.group g).freeDesc d).descs[k].state ≠ .settling
      rw [GroupCtx.descs_freeDesc]
      split
      · decide
      · exact hsettled k
  rw [judgeSettlement_none hunsettled] at hz
  obtain ⟨store, hfreed⟩ := (u.group g).freeDesc_eq d
  have halike := hqueued.alike g
  rw [stateOf, hz, hbgroup]
  refine ⟨?_, ?_, fun hdf => ?_, ?_, ?_, fun hno => ?_⟩
  · rw [hfreed]
    exact GroupCtx.opens_opened (hsame.trans hstate) rfl (hstep.gens g) halike.counter
  · rw [hfreed]
    exact halike.rejects
  · rw [GroupCtx.descs_opened, if_neg hdf]
    exact congrArg Descriptor.state (((u.group g).descs_freeDesc d d).trans (if_pos rfl))
  · rw [hopens]
    exact hqueued.disp
  · rw [hopens]
    exact hqueued.rep
  · rw [hopens, hnone hno]
    exact ⟨rfl, rfl⟩

/-- A close whose boundary carries a switch (R60, R72). -/
theorem closeWindow_switched (h : s.WindowsBut none) (hstate : (s.group g).state = .tracking) {d : Desc}
    (hd : s.stateOf ⟨g, d⟩ = .opened) (hhold : s.mgmt.hold = none) (hroom : s.ana.queue.length < 15)
    (hc : s.mgmt.commit = some c) (hflag : GroupSet.has c.switched g = false) (t : Tick) :
    let z := s.closeWindow g d t
    z.Switched s c g ∧
      (s.mgmt.staging.plans[g].enabled = true → ∀ e : Desc,
        GroupCtx.Lowest (fun k => (s.group g).descs[k].state = .free) e →
          (z.group g).Opens e t c.stagingGen (s.group g).counter s.holding ∧ (z.group g).Closed d (s.group g).descs[d] t) ∧
      (s.mgmt.staging.plans[g].enabled = false →
        (z.group g).state = .off ∧ (∀ k : Desc, z.stateOf ⟨g, k⟩ ≠ .settling) ∧
          (z.group g).Closed d (s.group g).descs[d] t) := by
  intro z
  have hclosing := closedFrom_room h hd (Nat.lt_succ_of_lt hroom) t
  have hz : z = ((s.closingWindow g d t).boundary g t).judgeSettlement g := closeWindow_free hhold g d t
  have hlength : (s.closingWindow g d t).ana.queue.length < 16 := by
    rw [hclosing.queue]
    exact ((settleNow_moves h g).1.trans_lt (Nat.succ_lt_succ hroom))
  generalize s.closingWindow g d t = u at hclosing hz hlength
  have hcommit : u.mgmt.commit = some c := by rw [hclosing.step.mgmt]; exact hc
  have hholding : u.holding = s.holding := by rw [holding, hclosing.step.mgmt]; rfl
  have hplan : u.mgmt.staging = s.mgmt.staging := by rw [hclosing.step.mgmt]
  have htrack := hclosing.state.trans hstate
  have hok := (hclosing.ok.exempt g).boundary hclosing.noneOpen t
  have hswitched := (boundary_switched htrack hcommit hflag t).after hclosing.step
  obtain ⟨hwindows, -, hqueue, -⟩ := (u.disarm g).switchGroup_windows g
  have hsgroup := group_boundarySwitched hcommit g
  refine ⟨?_, fun hen e he => ?_, fun hoff => ?_⟩
  · rw [hz]
    exact hswitched.then (windowStep_judgeSettlement _ g) ((alike_judgeSettlement _ g) g).rejects
  · have hin := GroupCtx.descIn_free_iff hclosing.free he
    have hbgroup := boundary_enabled_opens htrack hcommit hflag (by rw [hplan]; exact hen) hin t
    have hbopens := boundary_enabled htrack hcommit hflag (by rw [hplan]; exact hen) t
    have hbqueue : (u.boundary g t).ana.queue = u.ana.queue := by
      rw [hbopens, openWindow_free (by rw [hsgroup]; exact hin)]
      exact hqueue
    rw [hholding] at hbgroup
    have hde : d ≠ e := fun hde => by
      have := he.1
      rw [← hde, show (s.group g).descs[d].state = .opened from hd] at this
      cases this
    have hdesc : ((u.boundary g t).group g).descs[d] = (u.group g).descs[d] := by
      rw [hbgroup, GroupCtx.descs_opened, if_neg hde]
    have hnext : ((u.boundary g t).group g).Opens e t c.stagingGen (s.group g).counter s.holding := by
      rw [hbgroup]
      exact GroupCtx.opens_opened htrack rfl rfl hclosing.counter
    rw [← hbqueue] at hlength
    obtain ⟨zopens, zclosed, -⟩ := judge_closed hok hlength hnext (hdesc.trans hclosing.closed)
    rw [hz]
    exact ⟨zopens, zclosed⟩
  · obtain ⟨hstateOff, hnone⟩ := boundary_off (hclosing.ok.exempt g) hcommit hflag (by rw [hplan]; exact hoff) t
    have hb := boundary_disabled hcommit hflag (by rw [hplan]; exact hoff) t
    rw [judgeSettlement_none hnone] at hz
    rw [hz]
    refine ⟨hstateOff, hnone, ?_⟩
    have hswitchedOk : (u.boundarySwitched g).WindowsBut (some g) :=
      ((hclosing.ok.exempt g).modGroup (f := fun x => { x with arm := false }) (fun _ _ => rfl)).switchGroup g
    have hdesc : ((u.boundarySwitched g).group g).descs[d] = (u.group g).descs[d] := by rw [hsgroup]
    have hsroom : (u.boundarySwitched g).ana.queue.length < 16 := by
      rw [show (u.boundarySwitched g).ana.queue = u.ana.queue from hqueue]
      exact hlength
    generalize u.boundarySwitched g = w at hb hswitchedOk hdesc hsroom
    have hdescs := (requeued_settleNow hsroom g).descs g d
    obtain ⟨hset, -⟩ := settleNow_room hswitchedOk hsroom g d
    have hway := hset (by rw [stateOf, hdesc, hclosing.closed])
    rw [hdesc, hclosing.closed] at hdescs
    rw [stateOf] at hway
    rw [hb, group_modGroup_self]
    generalize w.settleNow g = y at hdescs hway
    exact ⟨(congrArg Descriptor.stop hdescs :), (congrArg Descriptor.len hdescs :), (congrArg Descriptor.number hdescs :),
      (congrArg Descriptor.tag hdescs :), .inr hway⟩

end State

end Sys2Proof.Machine
end

section
/-! A reference sample examined in TRACKING, all its outcomes together (R57, R59, R60, R64, R68, R72). -/

namespace Sys2Proof.Machine

namespace State

variable {s z : State} {g : Group} {d : Desc} {p : Plan} {t : Tick} {v : Int}

/-! ## The judgement of an examined sample in TRACKING -/

theorem judgeTracking_beyond (h : (t - ((s.group g).descs[d].start + BitVec.ofNat 16 (p.maxLen + 1))).toNat < 32768) :
    s.judgeTracking g p d t v = s.rejectWindow g d t :=
  if_pos (decide_eq_true h)

theorem judgeTracking_within (h : ¬ (t - ((s.group g).descs[d].start + BitVec.ofNat 16 (p.maxLen + 1))).toNat < 32768) :
    s.judgeTracking g p d t v = if (s.group g).crossing t v then
      if p.closesAt (t - (s.group g).descs[d].start).toNat then s.closeWindow g d t else s
    else s.armBy g p v :=
  if_neg (fun e => h (of_decide_eq_true e))

/-- The reference sample recorded as the last one (R57). -/
def told (s : State) (g : Group) (t : Tick) (v : Int) : State := s.modGroup g (fun x => { x with lastRef := some (t, v) })

theorem group_told (s : State) (g : Group) (t : Tick) (v : Int) :
    (s.told g t v).group g = { s.group g with lastRef := some (t, v) } := s.group_modGroup_self g _

theorem stateOf_told (s : State) (g : Group) (t : Tick) (v : Int) (w : WinRef) : (s.told g t v).stateOf w = s.stateOf w :=
  s.stateOf_modGroup_same g (f := fun x => { x with lastRef := some (t, v) }) (fun _ => rfl) w

theorem Switched.told {c : Commit} (h : z.Switched s c g) (t : Tick) (v : Int) : (z.told g t v).Switched s c g :=
  h.then (z.windowStep_modGroup g (f := fun x => { x with lastRef := some (t, v) }) rfl) (by rw [group_told])

theorem Switched.fields {c : Commit} (h : z.Switched s c g) :
    (z.group g).gen = c.stagingGen ∧ (z.group g).rejects = 0 ∧ z.vector g = 0 ∧ z.latch g = none ∧
      z.ana.lastVerdicts[g] = none ∧ z.CaptureEnded s (fun h => h = g) ∧
      z.mgmt = { s.mgmt with commit := some { c with switched := c.switched ||| (1#8 <<< g.val) } } :=
  ⟨h.gen, h.rejects, h.vector, h.latch, h.verdict, h.capture, h.mgmt⟩

/-- A group that no pending commit is yet to switch. -/
theorem switchPending_of_stays (h : ∀ c : Commit, s.mgmt.commit = some c → GroupSet.has c.switched g = true) :
    s.switchPending g = false := by
  cases hc : s.mgmt.commit with
  | none => exact switchPending_of_idle hc g
  | some c =>
    rw [switchPending_eq hc, h c hc]
    rfl

/-- A group outside TRACKING with none SETTLING has none OPEN either. -/
theorem told_noneOpen (h : (z.told g t v).WindowsBut none) (hstate : (z.group g).state ≠ .tracking)
    (hsettled : ∀ k : Desc, z.stateOf ⟨g, k⟩ ≠ .settling) (k : Desc) :
    ((z.told g t v).group g).descs[k].state ≠ .opened ∧ ((z.told g t v).group g).descs[k].state ≠ .settling := by
  refine ⟨h.noneOpen (by rw [group_told]; exact hstate) k, fun hk => hsettled k ?_⟩
  rw [← stateOf_told z g t v]
  exact hk

end State

/-- Settles O30: each outcome of the judgement, by the lemmas about the rejection and the close with and without a hold, a
switch and a FREE descriptor. -/
theorem crossingClosesWindow : Obligations.CrossingClosesWindow := by
  intro s g d t v hstate hd hok hp x w p r y n beyond closes stays free lowest opens underWay closed noneOpen
  have hwin := s.windowsOk_iff.mp hok
  have hopen : s.stateOf ⟨g, d⟩ = .opened := GroupCtx.state_of_descIn hd
  have hrok : r.WindowsBut none := hwin.takeReference g t v
  have htold : ∀ z : State, s.judgeTracking g p d t v = z → r = z.told g t v := fun z hz =>
    (State.takeReference_tracking hstate hd hp v).trans (congrArg (fun u : State => u.told g t v) hz)
  have hgroup : ∀ z : State, r = z.told g t v → y = { z.group g with lastRef := some (t, v) } := fun z hz =>
    (congrArg (fun u : State => u.group g) hz).trans (z.group_told g t v)
  have hbeyond : beyond → r = (s.rejectWindow g d t).told g t v := fun hb => htold _ (State.judgeTracking_beyond hb)
  have hcloses : closes → r = (s.closeWindow g d t).told g t v := fun ⟨hb, hc, hlen⟩ => htold _ (by
    rw [State.judgeTracking_within hb, if_pos hc, if_pos ((p.closesAt_iff n).mpr hlen)])
  refine ⟨fun hb hc hlen => ?_, fun hb hc => ?_, fun hb hs hr f hf => ?_, fun hb hs hr => ?_, fun hb hs hh hroom e he => ?_,
    fun hb hs hh hroom f hf => ?_, fun hb hs hh hfull hnone q hq => ?_, fun c hc hflag => ?_⟩
  · have hz : s.judgeTracking g p d t v = s := by
      rw [State.judgeTracking_within hb, if_pos hc, if_neg (fun e => by have := (p.closesAt_iff n).mp e; omega)]
    exact htold s hz
  · have hz : s.judgeTracking g p d t v = s.armBy g p v := by
      rw [State.judgeTracking_within hb, if_neg (fun e => Bool.false_ne_true (hc.symm.trans e))]
    refine (htold _ hz).trans ?_
    rw [State.armBy_eq, State.told, State.modGroup_modGroup]
    rfl
  · have hrz := hbeyond hb
    obtain ⟨zopens, zrejects, zothers, zfree, zqueue, zrep, zdisp⟩ :=
      State.rejectWindow_opens hstate (State.switchPending_of_stays hs) hr hf t
    generalize s.rejectWindow g d t = z at *
    have hy := hgroup z hrz
    refine ⟨zopens.fields v hy, by rw [hy]; exact zrejects, fun k hkd hkf => by rw [hy]; exact zothers k hkd hkf,
      fun hdf => by rw [hy]; exact zfree hdf, by rw [hrz]; exact zqueue, by rw [hrz]; exact zrep, by rw [hrz]; exact zdisp⟩
  · have hrz := hbeyond hb
    obtain ⟨zstate, zarm, zcounter, zrejects, zsettled, zrejected, zblind⟩ :=
      State.rejectWindow_blind hwin hopen (State.switchPending_of_stays hs) hr t
    generalize s.rejectWindow g d t = z at *
    have hy := hgroup z hrz
    rw [hrz] at hrok
    have hnone : noneOpen := fun k => by
      rw [show y = (z.told g t v).group g from congrArg (fun u : State => u.group g) hrz]
      exact State.told_noneOpen hrok (by rw [zstate]; decide) zsettled k
    refine ⟨by rw [hy]; exact zstate, by rw [hy]; exact zarm, by rw [hy], by rw [hy]; exact zcounter,
      by rw [hy]; exact zrejects, hnone, by rw [hrz]; exact zrejected, by rw [hrz]; exact zblind⟩
  · have hrz := hcloses hb
    obtain ⟨zopens, zclosed, zrejects, zdisp, zreceived, zsettled⟩ :=
      State.closeWindow_opens hwin hstate (State.switchPending_of_stays hs) hopen hh hroom he t
    generalize s.closeWindow g d t = z at *
    have hy := hgroup z hrz
    refine ⟨zopens.fields v hy, zclosed.fields hy, by rw [hy]; exact zrejects, by rw [hrz]; exact zdisp, fun b => ?_,
      fun k hk => by rw [hy]; exact zsettled k hk⟩
    rw [hy]
    exact (congrArg (fun u : Vector Nat 8 => u[b]) zreceived).trans (x.counts_eq _ _ b)
  · have hrz := hcloses hb
    obtain ⟨zopens, zrejects, zfree, zdisp, zrep, zqueue⟩ :=
      State.closeWindow_holds hwin hstate (State.switchPending_of_stays hs) hh hroom hf t
    generalize s.closeWindow g d t = z at *
    have hy := hgroup z hrz
    exact ⟨zopens.fields v hy, by rw [hy]; exact zrejects, fun hdf => by rw [hy]; exact zfree hdf, by rw [hrz]; exact zdisp,
      by rw [hrz]; exact zrep, fun hno => by rw [hrz]; exact zqueue hno⟩
  · have hrz := hcloses hb
    obtain ⟨zopens, zclosed, zrejects, zraised⟩ := State.closeWindow_withdraws hwin hstate (State.switchPending_of_stays hs)
      hopen hh ((x.descIn_eq_none_iff _).mp hfull) ((x.descIn_eq_none_iff _).mp hnone) hq t
    obtain ⟨hqg, -⟩ := State.withdrawOldest_some hq
    generalize s.closeWindow g d t = z at *
    have hy := hgroup z hrz
    have hopens := zopens.fields v hy
    refine ⟨hopens, zclosed.fields hy, by rw [hy]; exact zrejects, fun hm => ?_, by rw [hrz]; exact zraised⟩
    have hqueued := (hrok.queued q).mp hm
    rw [State.stateOf, hqg] at hqueued
    obtain ⟨-, -, -, -, hopened, -⟩ := hopens
    cases hqueued.symm.trans hopened
  · intro plan switches
    refine ⟨fun hb hr => ?_, fun hb hr => ?_, fun hb hh hroom => ?_⟩
    · have hrz := hbeyond hb
      obtain ⟨zswitched, zenabled, zdisabled⟩ := State.rejectWindow_switched hwin hstate hopen hc hflag hr t
      generalize s.rejectWindow g d t = z at *
      have hy := hgroup z hrz
      have hswitched : r.Switched s c g := by rw [hrz]; exact zswitched.told t v
      refine ⟨hswitched.fields, fun hen f hf => (zenabled hen f hf).fields v hy, fun hoff => ?_⟩
      obtain ⟨zstate, zsettled⟩ := zdisabled hoff
      rw [hrz] at hrok
      refine ⟨by rw [hy]; exact zstate, fun k => ?_⟩
      rw [show y = (z.told g t v).group g from congrArg (fun u : State => u.group g) hrz]
      exact State.told_noneOpen hrok (by rw [zstate]; decide) zsettled k
    · have hrz := hbeyond hb
      obtain ⟨zswitched, zstate, zsettled, zblind⟩ := State.rejectWindow_blind_switched hwin hopen hc hflag hr t
      generalize s.rejectWindow g d t = z at *
      have hy := hgroup z hrz
      have hswitched : r.Switched s c g := by rw [hrz]; exact zswitched.told t v
      rw [hrz] at hrok
      refine ⟨hswitched.fields, by rw [hy]; exact zstate, fun k => ?_, by rw [hrz]; exact zblind⟩
      rw [show y = (z.told g t v).group g from congrArg (fun u : State => u.group g) hrz]
      refine State.told_noneOpen hrok (fun e => ?_) zsettled k
      rw [zstate] at e
      split at e <;> cases e
    · have hrz := hcloses hb
      obtain ⟨zswitched, zenabled, zdisabled⟩ := State.closeWindow_switched hwin hstate hopen hh hroom hc hflag t
      generalize s.closeWindow g d t = z at *
      have hy := hgroup z hrz
      have hswitched : r.Switched s c g := by rw [hrz]; exact zswitched.told t v
      refine ⟨hswitched.fields, fun hen e he => ?_, fun hoff => ?_⟩
      · obtain ⟨zopens, zclosed⟩ := zenabled hen e he
        exact ⟨zopens.fields v hy, zclosed.fields hy⟩
      · obtain ⟨zstate, zsettled, zclosed⟩ := zdisabled hoff
        rw [hrz] at hrok
        refine ⟨by rw [hy]; exact zstate, fun k => ?_, zclosed.fields hy⟩
        rw [show y = (z.told g t v).group g from congrArg (fun u : State => u.group g) hrz]
        exact State.told_noneOpen hrok (by rw [zstate]; decide) zsettled k

end Sys2Proof.Machine
end

section
/-! The fixed-point π of AMPLITUDE (R83): arctangents of inverses by their series, and Machin's formula. -/

namespace Sys2Proof.Machine

open Finset

/-! ## Floors -/

theorem natDiv_bounds (a : Nat) {b : Nat} (hb : 0 < b) : ((a / b : Nat) : ℝ) ≤ (a : ℝ) / b ∧ (a : ℝ) / b ≤ (a / b : Nat) + 1 := by
  refine ⟨Nat.cast_div_le, ?_⟩
  have hpos : (0 : ℝ) < b := by exact_mod_cast hb
  rw [div_le_iff₀ hpos]
  have := Nat.lt_div_mul_add (a := a) hb
  exact_mod_cast (by rw [add_mul, one_mul]; exact this.le : a ≤ (a / b + 1) * b)

/-- A quotient of a number known from below is known from below. -/
theorem natDiv_error {a b : Nat} {A e : ℝ} (hb : 0 < b) (hlo : (a : ℝ) ≤ A) (hhi : A ≤ a + e) :
    ((a / b : Nat) : ℝ) ≤ A / b ∧ A / b ≤ (a / b : Nat) + (e / b + 1) := by
  obtain ⟨h1, h2⟩ := natDiv_bounds a hb
  have hpos : (0 : ℝ) < b := by exact_mod_cast hb
  have h3 : (a : ℝ) / b ≤ A / b := by gcongr
  have h4 : A / b ≤ (a + e) / b := by gcongr
  rw [add_div] at h4
  constructor <;> linarith

/-! ## The arctangent series -/

/-- The partial sums that `atanTerms` computes, at the scale of P. -/
noncomputable def atanSum (P x2 : ℝ) (i fuel : Nat) : ℝ :=
  ∑ j ∈ range fuel, (-1) ^ j * (P / x2 ^ j / (2 * ((i + j : Nat) : ℝ) + 1))

theorem atanSum_succ (P x2 : ℝ) (i fuel : Nat) :
    atanSum P x2 i (fuel + 1) = P / (2 * (i : ℝ) + 1) - atanSum (P / x2) x2 (i + 1) fuel := by
  rw [atanSum, sum_range_succ', atanSum, add_comm, sub_eq_add_neg, ← sum_neg_distrib]
  refine congrArg₂ (· + ·) (by simp) (sum_congr rfl (fun j _ => ?_))
  rw [show i + (j + 1) = i + 1 + j by omega, pow_succ, pow_succ', ← div_div]
  ring

/-- Every term of the fixed-point series is at most 3 off. -/
theorem atanTerms_error {x2 : Nat} (hx : 2 ≤ x2) : ∀ (fuel power i : Nat) (neg : Bool) (P : ℝ), (power : ℝ) ≤ P →
    P ≤ power + 2 → |(atanTerms x2 fuel power i neg : ℝ) - (if neg then -1 else 1) * atanSum P x2 i fuel| ≤ 3 * fuel
  | 0, power, i, neg, P, _, _ => by simp [atanTerms, atanSum]
  | fuel + 1, power, i, neg, P, hlo, hhi => by
    obtain ⟨t1, t2⟩ := natDiv_error (b := 2 * i + 1) (by omega) hlo hhi
    obtain ⟨n1, n2⟩ := natDiv_error (b := x2) (by omega) hlo hhi
    have hx2 : (2 : ℝ) ≤ x2 := by exact_mod_cast hx
    have hnext : (2 : ℝ) / x2 ≤ 1 := (div_le_one (by linarith)).mpr hx2
    have hodd : (2 : ℝ) / ((2 * i + 1 : Nat) : ℝ) ≤ 2 := div_le_self (by norm_num) (by push_cast; linarith [Nat.cast_nonneg (α := ℝ) i])
    have hrest := atanTerms_error hx fuel (power / x2) (i + 1) (!neg) (P / x2) n1 (by linarith)
    have hterm : |((power / (2 * i + 1) : Nat) : ℝ) - P / (2 * (i : ℝ) + 1)| ≤ 3 := by
      rw [show (2 * (i : ℝ) + 1) = ((2 * i + 1 : Nat) : ℝ) by push_cast; rfl, abs_le]
      constructor <;> linarith
    have hterms : (atanTerms x2 (fuel + 1) power i neg : ℝ) =
        (if neg then -1 else 1) * ((power / (2 * i + 1) : Nat) : ℝ) + atanTerms x2 fuel (power / x2) (i + 1) (!neg) := by
      rw [atanTerms]
      generalize power / (2 * i + 1) = term
      cases neg <;> simp
    rw [atanSum_succ, hterms, Nat.cast_succ]
    generalize ((power / (2 * i + 1) : Nat) : ℝ) = term at hterm
    rw [abs_le] at hterm hrest ⊢
    cases neg with
    | true =>
      simp only [Bool.not_true, Bool.false_eq_true, ↓reduceIte, one_mul] at hrest ⊢
      constructor <;> linarith [hterm.1, hterm.2, hrest.1, hrest.2]
    | false =>
      simp only [Bool.not_false, Bool.false_eq_true, ↓reduceIte, one_mul] at hrest ⊢
      constructor <;> linarith [hterm.1, hterm.2, hrest.1, hrest.2]

/-- The partial sums of the arctangent of an inverse of at least 5. -/
theorem atanSum_error {x : Nat} (hx : 5 ≤ x) (q : Nat) (fuel : Nat) (hfuel : q ≤ 4 * fuel) :
    |atanSum (2 ^ q / x) ((x * x : Nat) : ℝ) 0 fuel - 2 ^ q * Real.arctan (x : ℝ)⁻¹| ≤ 1 := by
  have hx5 : (5 : ℝ) ≤ x := by exact_mod_cast hx
  have hx0 : (0 : ℝ) < x := by linarith
  set y : ℝ := (x : ℝ)⁻¹ with hy
  have hy0 : 0 ≤ y := inv_nonneg.mpr hx0.le
  have hy5 : y ≤ 1 / 5 := by rw [hy, ← one_div]; exact one_div_le_one_div_of_le (by norm_num) hx5
  have hsum := Real.hasSum_arctan (x := y) (by rw [Real.norm_of_nonneg hy0]; linarith)
  have hbound : ∀ n : Nat, ‖(-1) ^ n * y ^ (2 * n + 1) / ((2 * n + 1 : Nat) : ℝ)‖ ≤ 1 / 5 * (1 / 16) ^ n := fun n => by
    have hodd : (1 : ℝ) ≤ ((2 * n + 1 : Nat) : ℝ) := by exact_mod_cast Nat.le_add_left 1 _
    have hsq : y ^ 2 ≤ 1 / 16 := by nlinarith
    rw [norm_div, norm_mul, norm_pow, norm_neg, norm_one, one_pow, one_mul, Real.norm_of_nonneg (pow_nonneg hy0 _),
      Real.norm_of_nonneg (by linarith)]
    calc y ^ (2 * n + 1) / ((2 * n + 1 : Nat) : ℝ) ≤ y ^ (2 * n + 1) := div_le_self (pow_nonneg hy0 _) hodd
      _ = y * (y ^ 2) ^ n := by rw [pow_succ, pow_mul, mul_comm]
      _ ≤ 1 / 5 * (1 / 16) ^ n := by gcongr
  have htail := norm_sub_le_of_geometric_bound_of_hasSum (by norm_num) hbound hsum fuel
  have hterms : atanSum (2 ^ q / x) ((x * x : Nat) : ℝ) 0 fuel =
      2 ^ q * ∑ n ∈ range fuel, (-1) ^ n * y ^ (2 * n + 1) / ((2 * n + 1 : Nat) : ℝ) := by
    rw [atanSum, mul_sum]
    refine sum_congr rfl (fun n _ => ?_)
    rw [hy, inv_pow, pow_succ, pow_mul]
    push_cast
    rw [zero_add]
    field_simp
  have hsmall : (2 : ℝ) ^ q * (1 / 16) ^ fuel ≤ 1 := by
    have hpow : (2 : ℝ) ^ q ≤ 16 ^ fuel := by
      calc (2 : ℝ) ^ q ≤ 2 ^ (4 * fuel) := pow_le_pow_right₀ (by norm_num) hfuel
        _ = 16 ^ fuel := by rw [pow_mul]; norm_num
    rw [one_div, inv_pow, ← div_eq_mul_inv]
    exact (div_le_one (by positivity)).mpr hpow
  rw [hterms, ← mul_sub, abs_mul, abs_of_nonneg (by positivity : (0 : ℝ) ≤ 2 ^ q)]
  rw [Real.norm_eq_abs] at htail
  calc (2 : ℝ) ^ q * _ ≤ 2 ^ q * (1 / 5 * (1 / 16) ^ fuel / (1 - 1 / 16)) := by gcongr
    _ = (16 / 75) * (2 ^ q * (1 / 16) ^ fuel) := by ring
    _ ≤ 1 := by linarith

/-- The fixed-point arctangent of an inverse of at least 5. -/
theorem atanInv_error {x : Nat} (hx : 5 ≤ x) (q : Nat) :
    |(atanInv q x : ℝ) - 2 ^ q * Real.arctan (x : ℝ)⁻¹| ≤ 3 * (q / 4 + 8 : Nat) + 1 := by
  obtain ⟨h1, h2⟩ := natDiv_bounds (2 ^ q) (b := x) (by omega)
  push_cast at h1 h2
  have hterms := atanTerms_error (x2 := x * x) (by nlinarith) (q / 4 + 8) (2 ^ q / x) 0 false (2 ^ q / x) h1 (by linarith)
  have hsum := atanSum_error hx q (q / 4 + 8) (by omega)
  simp only [Bool.false_eq_true, ↓reduceIte, one_mul] at hterms
  rw [atanInv]
  calc _ ≤ _ := abs_sub_le _ (atanSum (2 ^ q / x) ((x * x : Nat) : ℝ) 0 (q / 4 + 8)) _
    _ ≤ _ := add_le_add hterms hsum

/-- The fixed-point π. -/
theorem piAt_error (q : Nat) : |(piAt q : ℝ) - 2 ^ q * Real.pi| ≤ 60 * (q / 4 + 8 : Nat) + 20 := by
  have h5 := atanInv_error (x := 5) le_rfl q
  have h239 := atanInv_error (x := 239) (by norm_num) q
  have hpi : Real.pi = 16 * Real.arctan ((5 : Nat) : ℝ)⁻¹ - 4 * Real.arctan ((239 : Nat) : ℝ)⁻¹ := by
    have := Real.four_mul_arctan_inv_5_sub_arctan_inv_239
    push_cast
    linarith
  rw [piAt, hpi]
  push_cast at h5 h239 ⊢
  rw [abs_le] at h5 h239 ⊢
  constructor <;> linarith [h5.1, h5.2, h239.1, h239.2]

end Sys2Proof.Machine
end

section
/-! The fixed-point sums of AMPLITUDE (R83): how far cosine, sine and the rotated sums are from the complex numbers they
stand for. -/

namespace Sys2Proof.Machine

open Finset

/-! ## Pairs of numbers as complex numbers -/

/-- A pair of integers as a complex number. -/
noncomputable def asComplex (z : Int × Int) : ℂ := ⟨z.1, z.2⟩

theorem norm_asComplex_sq (z : Int × Int) : ((z.1 * z.1 + z.2 * z.2 : Int) : ℝ) = ‖asComplex z‖ ^ 2 := by
  rw [Complex.sq_norm, Complex.normSq_apply]
  push_cast
  rfl

/-- Rounding both parts of a quotient down moves it by at most 2. -/
theorem norm_floor_le (a b : Int) (p : Nat) :
    ‖asComplex (a / 2 ^ p, b / 2 ^ p) - asComplex (a, b) / 2 ^ p‖ ≤ 2 := by
  have hpos : (0 : ℝ) < 2 ^ p := by positivity
  have hfloor : ∀ c : Int, |((c / 2 ^ p : Int) : ℝ) - (c : ℝ) / 2 ^ p| ≤ 1 := fun c => by
    have h1 : c / 2 ^ p * 2 ^ p ≤ c := Int.ediv_mul_le c (by positivity)
    have h2 : c < (c / 2 ^ p + 1) * 2 ^ p := Int.lt_ediv_add_one_mul_self c (by positivity)
    have h3 : ((c / 2 ^ p : Int) : ℝ) * 2 ^ p ≤ c := by exact_mod_cast h1
    have h4 : (c : ℝ) ≤ (((c / 2 ^ p : Int) : ℝ) + 1) * 2 ^ p := by exact_mod_cast h2.le
    have h5 := (le_div_iff₀ hpos).mpr h3
    have h6 := (div_le_iff₀ hpos).mpr h4
    rw [abs_le]
    constructor <;> linarith
  have hdiv : asComplex (a, b) / 2 ^ p = ⟨(a : ℝ) / 2 ^ p, (b : ℝ) / 2 ^ p⟩ := by
    rw [show (2 : ℂ) ^ p = (((2 : ℝ) ^ p : ℝ) : ℂ) by push_cast; rfl]
    exact Complex.ext (Complex.div_ofReal_re _ _) (Complex.div_ofReal_im _ _)
  rw [hdiv]
  refine (Complex.norm_le_abs_re_add_abs_im _).trans ?_
  exact (add_le_add (hfloor a) (hfloor b)).trans (by norm_num)

/-! ## The exponential series -/

/-- How far below its true value the k-th term of the fixed-point series can be. -/
noncomputable def seriesSlack : Nat → ℝ
  | 0 => 0
  | k + 1 => seriesSlack k * 4 / (k + 1) + 1

theorem seriesSlack_bounds (k : Nat) : 0 ≤ seriesSlack k ∧ seriesSlack k ≤ 7 := by
  have hnonneg : ∀ k, 0 ≤ seriesSlack k := fun k => by
    induction k with
    | zero => exact le_refl _
    | succ k ih =>
      rw [seriesSlack]
      positivity
  refine ⟨hnonneg k, ?_⟩
  by_cases hk : 4 ≤ k
  · induction k, hk using Nat.le_induction with
    | base => norm_num [seriesSlack]
    | succ k hk ih =>
      have hk' : (4 : ℝ) ≤ k := by exact_mod_cast hk
      rw [seriesSlack]
      have : seriesSlack k * 4 / (k + 1) ≤ 7 * 4 / (4 + 1) := by gcongr
      linarith
  · interval_cases k <;> norm_num [seriesSlack]

/-- The n-th term of the exponential of φ I, at scale 2^q. -/
noncomputable def seriesTerm (q : Nat) (φ : ℝ) (n : Nat) : ℝ := 2 ^ q * (φ ^ n / n.factorial)

theorem seriesTerm_succ (q : Nat) (φ : ℝ) (n : Nat) : seriesTerm q φ (n + 1) = seriesTerm q φ n * φ / (n + 1) := by
  rw [seriesTerm, seriesTerm, pow_succ, Nat.factorial_succ]
  have : (n.factorial : ℝ) ≠ 0 := by exact_mod_cast n.factorial_ne_zero
  push_cast
  field_simp

/-- A step of the series adds a term on the axis that the power of I gives. -/
theorem asComplex_seriesTerms (q theta fuel term k : Nat) : asComplex (seriesTerms q theta (fuel + 1) term k) =
    term * Complex.I ^ k + asComplex (seriesTerms q theta fuel (term * theta / (2 ^ q * (k + 1))) (k + 1)) := by
  rw [seriesTerms]
  generalize seriesTerms q theta fuel (term * theta / (2 ^ q * (k + 1))) (k + 1) = rest
  rw [Complex.I_pow_eq_pow_mod]
  have hk : k % 4 < 4 := Nat.mod_lt _ (by norm_num)
  have h2 : k % 2 = k % 4 % 2 := by omega
  rw [h2]
  generalize k % 4 = r at hk
  interval_cases r <;> apply Complex.ext <;> simp [asComplex, pow_succ] <;> ring

theorem seriesTerms_error {q theta : Nat} (hφ : (theta : ℝ) / 2 ^ q ≤ 4) : ∀ (fuel term k : Nat),
    (term : ℝ) ≤ seriesTerm q (theta / 2 ^ q) k → seriesTerm q (theta / 2 ^ q) k ≤ term + seriesSlack k →
    ‖asComplex (seriesTerms q theta fuel term k) -
      ∑ j ∈ range fuel, (seriesTerm q (theta / 2 ^ q) (k + j) : ℂ) * Complex.I ^ (k + j)‖ ≤ 7 * fuel
  | 0, term, k, _, _ => by
    have hzero : asComplex (0, 0) = 0 := by apply Complex.ext <;> simp [asComplex]
    simp [seriesTerms, hzero]
  | fuel + 1, term, k, hlo, hhi => by
    obtain ⟨hslack0, hslack7⟩ := seriesSlack_bounds k
    have hq : (0 : ℝ) < 2 ^ q := by positivity
    have hscaled : seriesTerm q (theta / 2 ^ q) (k + 1) =
        seriesTerm q (theta / 2 ^ q) k * theta / ((2 ^ q * (k + 1) : Nat) : ℝ) := by
      rw [seriesTerm_succ]
      push_cast
      field_simp
    obtain ⟨n1, n2⟩ := natDiv_error (a := term * theta) (b := 2 ^ q * (k + 1)) (A := seriesTerm q (theta / 2 ^ q) k * theta)
      (e := seriesSlack k * theta) (by positivity) (by push_cast; gcongr) (by push_cast; nlinarith [Nat.cast_nonneg (α := ℝ) theta])
    rw [← hscaled] at n1 n2
    have hstep : seriesSlack k * theta / ((2 ^ q * (k + 1) : Nat) : ℝ) + 1 ≤ seriesSlack (k + 1) := by
      have : seriesSlack k * theta / ((2 ^ q * (k + 1) : Nat) : ℝ) = seriesSlack k * (theta / 2 ^ q) / (k + 1) := by
        push_cast
        field_simp
      rw [this, seriesSlack]
      gcongr
    have hrest := seriesTerms_error hφ fuel _ (k + 1) n1 (by linarith)
    rw [asComplex_seriesTerms, sum_range_succ', add_zero]
    generalize asComplex (seriesTerms q theta fuel _ (k + 1)) = rest at hrest
    have hsplit : (term : ℂ) * Complex.I ^ k + rest - (∑ j ∈ range fuel,
          (seriesTerm q (theta / 2 ^ q) (k + (j + 1)) : ℂ) * Complex.I ^ (k + (j + 1)) +
          (seriesTerm q (theta / 2 ^ q) k : ℂ) * Complex.I ^ k) =
        (rest - ∑ j ∈ range fuel, (seriesTerm q (theta / 2 ^ q) (k + 1 + j) : ℂ) * Complex.I ^ (k + 1 + j)) +
          (((term : ℝ) - seriesTerm q (theta / 2 ^ q) k : ℝ) : ℂ) * Complex.I ^ k := by
      have hshift : ∑ j ∈ range fuel, (seriesTerm q (theta / 2 ^ q) (k + (j + 1)) : ℂ) * Complex.I ^ (k + (j + 1)) =
          ∑ j ∈ range fuel, (seriesTerm q (theta / 2 ^ q) (k + 1 + j) : ℂ) * Complex.I ^ (k + 1 + j) :=
        sum_congr rfl (fun j _ => by rw [show k + (j + 1) = k + 1 + j by omega])
      rw [hshift]
      push_cast
      ring
    have hterm : ‖((((term : ℝ) - seriesTerm q (theta / 2 ^ q) k : ℝ) : ℂ) * Complex.I ^ k)‖ ≤ 7 := by
      rw [norm_mul, norm_pow, Complex.norm_I, one_pow, mul_one, Complex.norm_real, Real.norm_eq_abs, abs_le]
      constructor <;> linarith
    rw [hsplit, Nat.cast_succ]
    refine (norm_add_le _ _).trans ?_
    linarith

/-- The tail of the exponential series that the fixed-point series leaves out. -/
theorem series_tail {p : Nat} {φ : ℝ} (h0 : 0 ≤ φ) (h4 : φ ≤ 4) :
    ‖∑ j ∈ range (p / 4 + 96), (seriesTerm (p + 32) φ (0 + j) : ℂ) * Complex.I ^ (0 + j) -
      2 ^ (p + 32) * Complex.exp (φ * Complex.I)‖ ≤ 1 := by
  have hnorm : ‖(φ * Complex.I : ℂ)‖ = φ := by
    rw [norm_mul, Complex.norm_I, mul_one, Complex.norm_real, Real.norm_of_nonneg h0]
  have hbound := Complex.exp_bound' (x := φ * Complex.I) (n := p / 4 + 96) (by
    rw [hnorm, div_le_iff₀ (by positivity)]
    have : (96 : ℝ) ≤ ((p / 4 + 96 : Nat) : ℝ) := by exact_mod_cast Nat.le_add_left _ _
    rw [Nat.cast_succ]
    linarith)
  have hsum : ∑ j ∈ range (p / 4 + 96), (seriesTerm (p + 32) φ (0 + j) : ℂ) * Complex.I ^ (0 + j) =
      2 ^ (p + 32) * ∑ j ∈ range (p / 4 + 96), (φ * Complex.I) ^ j / (j.factorial : ℂ) := by
    rw [mul_sum]
    refine sum_congr rfl (fun j _ => ?_)
    rw [zero_add, seriesTerm, mul_pow]
    push_cast
    ring
  have hfactorial : 2 ^ (p + 32) * 4 ^ (p / 4 + 96) * 2 ≤ (p / 4 + 96).factorial := by
    have hgrow := Nat.factorial_mul_pow_le_factorial (m := 96) (n := p / 4)
    have hbase : 4 ^ 96 * 2 ^ 36 ≤ Nat.factorial 96 := by norm_num [Nat.factorial]
    have hp : 2 ^ (p + 32) * 2 ≤ 2 ^ 36 * 16 ^ (p / 4) := by
      rw [show (16 : Nat) = 2 ^ 4 by norm_num, ← pow_mul, ← pow_add, ← pow_succ]
      exact Nat.pow_le_pow_right (by norm_num) (by omega)
    calc 2 ^ (p + 32) * 4 ^ (p / 4 + 96) * 2 = (2 ^ (p + 32) * 2) * 4 ^ (p / 4) * 4 ^ 96 := by rw [pow_add 4]; ring
      _ ≤ (2 ^ 36 * 16 ^ (p / 4)) * 4 ^ (p / 4) * 4 ^ 96 := by gcongr
      _ = (4 ^ 96 * 2 ^ 36) * 64 ^ (p / 4) := by rw [show (64 : Nat) = 16 * 4 by norm_num, mul_pow]; ring
      _ ≤ Nat.factorial 96 * 97 ^ (p / 4) := Nat.mul_le_mul hbase (Nat.pow_le_pow_left (by norm_num) _)
      _ ≤ (96 + p / 4).factorial := hgrow
      _ = (p / 4 + 96).factorial := by rw [add_comm]
  have hreal : (2 : ℝ) ^ (p + 32) * 4 ^ (p / 4 + 96) * 2 ≤ ((p / 4 + 96).factorial : ℝ) := by exact_mod_cast hfactorial
  have hpos : (0 : ℝ) < ((p / 4 + 96).factorial : ℝ) := by exact_mod_cast Nat.factorial_pos _
  rw [hnorm] at hbound
  rw [hsum, ← mul_sub, norm_mul, norm_pow, Complex.norm_ofNat, norm_sub_rev]
  calc (2 : ℝ) ^ (p + 32) * _ ≤ 2 ^ (p + 32) * (φ ^ (p / 4 + 96) / ((p / 4 + 96).factorial : ℝ) * 2) := by gcongr
    _ ≤ 2 ^ (p + 32) * (4 ^ (p / 4 + 96) / ((p / 4 + 96).factorial : ℝ) * 2) := by gcongr
    _ = (2 ^ (p + 32) * 4 ^ (p / 4 + 96) * 2) / ((p / 4 + 96).factorial : ℝ) := by ring
    _ ≤ 1 := (div_le_one hpos).mpr hreal

end Sys2Proof.Machine
end

section
/-! The rotated sums of AMPLITUDE (R83) and their squared magnitude, against complex numbers. -/

namespace Sys2Proof.Machine

/-! ## Cosine and sine -/

theorem norm_exp_sub_exp_le (a b : ℝ) : ‖Complex.exp (a * Complex.I) - Complex.exp (b * Complex.I)‖ ≤ |a - b| := by
  have hfactor : Complex.exp (a * Complex.I) - Complex.exp (b * Complex.I) =
      Complex.exp (b * Complex.I) * (Complex.exp (Complex.I * ((a - b : ℝ) : ℂ)) - 1) := by
    rw [mul_sub, ← Complex.exp_add, mul_one]
    congr 2
    push_cast
    ring
  rw [hfactor, norm_mul, Complex.norm_exp_ofReal_mul_I, one_mul]
  exact Real.norm_exp_I_mul_ofReal_sub_one_le

/-- The angle of one step of the rotation. -/
noncomputable def stepAngle (h n : Nat) : ℝ := 2 * Real.pi * h / n

/-- The fixed-point angle that the series is taken at. -/
def thetaAt (q h n : Nat) : Nat := (2 * piAt q * (h : Int) / (n : Int)).toNat

theorem thetaAt_error {q h n : Nat} (hq : 32 ≤ q) (hq' : q ≤ 8224) (hn : 2 * h < n) :
    |(thetaAt q h n : ℝ) - 2 ^ q * stepAngle h n| ≤ 2 ^ 18 := by
  have hpi := piAt_error q
  have hfuel : ((q / 4 + 8 : Nat) : ℝ) ≤ 2064 := by exact_mod_cast (by omega : q / 4 + 8 ≤ 2064)
  have hpow : (2 : ℝ) ^ 32 ≤ 2 ^ q := pow_le_pow_right₀ (by norm_num) hq
  have hn0 : (0 : ℝ) < n := by exact_mod_cast (by omega : 0 < n)
  have hratio : 2 * (h : ℝ) / n ≤ 1 := (div_le_one hn0).mpr (by exact_mod_cast hn.le)
  have hratio0 : 0 ≤ 2 * (h : ℝ) / n := by positivity
  have hpositive : 0 ≤ piAt q := by
    have : (0 : ℝ) ≤ piAt q := by
      rw [abs_le] at hpi
      nlinarith [Real.pi_gt_three, hpi.1]
    exact_mod_cast this
  have hscaled : |2 * (piAt q : ℝ) * h / n - 2 ^ q * stepAngle h n| ≤ 123860 := by
    rw [stepAngle, show 2 * (piAt q : ℝ) * h / n - 2 ^ q * (2 * Real.pi * h / n) =
      (2 * (h : ℝ) / n) * (piAt q - 2 ^ q * Real.pi) by ring, abs_mul, abs_of_nonneg hratio0]
    calc _ ≤ 1 * |(piAt q : ℝ) - 2 ^ q * Real.pi| := by gcongr
      _ ≤ _ := by linarith
  obtain ⟨m, hm⟩ := Int.eq_ofNat_of_zero_le hpositive
  have htheta : thetaAt q h n = 2 * m * h / n := by
    rw [thetaAt, hm]
    exact congrArg Int.toNat (by push_cast; rfl : 2 * ((m : Nat) : Int) * (h : Int) / (n : Int) = ((2 * m * h / n : Nat) : Int))
  obtain ⟨h1, h2⟩ := natDiv_bounds (2 * m * h) (b := n) (by omega)
  rw [htheta]
  rw [hm] at hscaled
  push_cast at h1 h2 hscaled ⊢
  rw [abs_le] at hscaled ⊢
  constructor <;> linarith [hscaled.1, hscaled.2]

/-- Cosine and sine of the step angle are at most 3 off (R83). -/
theorem turn_error {p h n : Nat} (hp : p ≤ 8192) (hn : 2 * h < n) :
    ‖asComplex (turn p h n) - 2 ^ p * Complex.exp (stepAngle h n * Complex.I)‖ ≤ 3 := by
  have htheta := thetaAt_error (q := p + 32) (by omega) (by omega) hn
  have hturn : turn p h n = ((seriesTerms (p + 32) (thetaAt (p + 32) h n) (p / 4 + 96) (2 ^ (p + 32)) 0).1 / 2 ^ 32,
    (seriesTerms (p + 32) (thetaAt (p + 32) h n) (p / 4 + 96) (2 ^ (p + 32)) 0).2 / 2 ^ 32) := rfl
  have hstep : stepAngle h n ≤ Real.pi := by
    have hn0 : (0 : ℝ) < n := by exact_mod_cast (by omega : 0 < n)
    rw [stepAngle, div_le_iff₀ hn0]
    have : 2 * (h : ℝ) ≤ n := by exact_mod_cast hn.le
    nlinarith [Real.pi_pos]
  have hpow : (2 : ℝ) ^ 32 ≤ 2 ^ (p + 32) := pow_le_pow_right₀ (by norm_num) (by omega)
  rw [hturn]
  generalize thetaAt (p + 32) h n = theta at htheta
  have hq : (0 : ℝ) < 2 ^ (p + 32) := by positivity
  set φ : ℝ := (theta : ℝ) / 2 ^ (p + 32) with hφ
  have hφθ : 2 ^ (p + 32) * |φ - stepAngle h n| ≤ 2 ^ 18 := by
    rw [show (2 : ℝ) ^ (p + 32) * |φ - stepAngle h n| = |2 ^ (p + 32) * (φ - stepAngle h n)| by
      rw [abs_mul, abs_of_pos hq], hφ, mul_sub, mul_div_cancel₀ _ hq.ne']
    exact htheta
  have hφ0 : 0 ≤ φ := by positivity
  have hφ4 : φ ≤ 4 := by
    rw [hφ, div_le_iff₀ hq]
    rw [abs_le] at htheta
    nlinarith [Real.pi_lt_d2, htheta.2]
  have hfirst : seriesTerm (p + 32) φ 0 = ((2 ^ (p + 32) : Nat) : ℝ) := by
    rw [seriesTerm, pow_zero, Nat.factorial_zero, Nat.cast_one, div_one, mul_one, Nat.cast_pow, Nat.cast_ofNat]
  have hseries := seriesTerms_error (q := p + 32) (theta := theta) hφ4 (p / 4 + 96) (2 ^ (p + 32)) 0 hfirst.ge
    (hfirst.le.trans (le_add_of_nonneg_right (seriesSlack_bounds 0).1))
  have htail := series_tail (p := p) hφ0 hφ4
  have hexp := norm_exp_sub_exp_le φ (stepAngle h n)
  rw [← hφ] at hseries
  generalize seriesTerms (p + 32) theta (p / 4 + 96) (2 ^ (p + 32)) 0 = r at hseries
  have hfuel : ((p / 4 + 96 : Nat) : ℝ) ≤ 2144 := by exact_mod_cast (by omega : p / 4 + 96 ≤ 2144)
  have hscaled : ‖(2 : ℂ) ^ (p + 32) * Complex.exp (φ * Complex.I) -
      2 ^ (p + 32) * Complex.exp (stepAngle h n * Complex.I)‖ ≤ 2 ^ 18 := by
    rw [← mul_sub, norm_mul, norm_pow, Complex.norm_ofNat]
    exact (mul_le_mul_of_nonneg_left hexp hq.le).trans hφθ
  have hsum : ‖asComplex r - 2 ^ (p + 32) * Complex.exp (stepAngle h n * Complex.I)‖ ≤ 2 ^ 32 := by
    have h1 := norm_sub_le_norm_sub_add_norm_sub (asComplex r) (2 ^ (p + 32) * Complex.exp (φ * Complex.I))
      (2 ^ (p + 32) * Complex.exp (stepAngle h n * Complex.I))
    have h2 := norm_sub_le_norm_sub_add_norm_sub (asComplex r)
      (∑ j ∈ Finset.range (p / 4 + 96), (seriesTerm (p + 32) φ (0 + j) : ℂ) * Complex.I ^ (0 + j))
      (2 ^ (p + 32) * Complex.exp (φ * Complex.I))
    norm_num at hscaled ⊢
    linarith
  have hdivided : ‖asComplex r / 2 ^ 32 - 2 ^ p * Complex.exp (stepAngle h n * Complex.I)‖ ≤ 1 := by
    have hmul : asComplex r / 2 ^ 32 - 2 ^ p * Complex.exp (stepAngle h n * Complex.I) =
        (asComplex r - 2 ^ (p + 32) * Complex.exp (stepAngle h n * Complex.I)) / 2 ^ 32 := by
      rw [pow_add]
      ring
    rw [hmul, norm_div, norm_pow, Complex.norm_ofNat]
    exact (div_le_one (by positivity)).mpr hsum
  calc _ ≤ _ := norm_sub_le_norm_sub_add_norm_sub _ (asComplex r / 2 ^ 32) _
    _ ≤ 2 + 1 := add_le_add (norm_floor_le r.1 r.2 32) hdivided
    _ = 3 := by norm_num

/-! ## Sums over a window -/

/-- The polynomial with the given coefficients, lowest first, at a complex number. -/
def polyAt (w : ℂ) : List Int → ℂ
  | [] => 0
  | x :: xs => x + w * polyAt w xs

theorem polyAt_eq_sum (w : ℂ) (xs : List Int) : polyAt w xs = ∑ i ∈ Finset.range xs.length, ((xs.getD i 0 : Int) : ℂ) * w ^ i := by
  induction xs with
  | nil => rfl
  | cons x xs ih =>
    rw [List.length_cons, Finset.sum_range_succ', polyAt, ih, Finset.mul_sum, add_comm]
    refine congrArg₂ (· + ·) (Finset.sum_congr rfl (fun i _ => ?_)) (by simp)
    rw [List.getD_cons_succ, pow_succ]
    ring

theorem norm_polyAt_le {w : ℂ} (hw : ‖w‖ = 1) {B : ℝ} : ∀ {xs : List Int}, (∀ x ∈ xs, |(x : ℝ)| ≤ B) →
    ‖polyAt w xs‖ ≤ B * xs.length
  | [], _ => by simp [polyAt]
  | x :: xs, h => by
    obtain ⟨hx, hxs⟩ := List.forall_mem_cons.mp h
    have hrest := norm_polyAt_le hw hxs
    rw [polyAt, List.length_cons, Nat.cast_succ]
    calc _ ≤ ‖(x : ℂ)‖ + ‖w * polyAt w xs‖ := norm_add_le _ _
      _ ≤ B + B * xs.length := by
        rw [norm_mul, hw, one_mul, Complex.norm_intCast]
        exact add_le_add hx hrest
      _ = B * (xs.length + 1) := by ring

/-- One step of the rotation. -/
def rotated (p : Nat) (by1 z : Int × Int) : Int × Int :=
  ((z.1 * by1.1 - z.2 * by1.2) / 2 ^ p, (z.2 * by1.1 + z.1 * by1.2) / 2 ^ p)

theorem rotated_error {p : Nat} (hp : 128 ≤ p) {by1 z : Int × Int} {u w : ℂ} (hu : ‖u‖ = 1) (hw : ‖w‖ = 1)
    (hby : ‖asComplex by1 - 2 ^ p * w‖ ≤ 3) {i : Nat} (hi : i ≤ 192) (hz : ‖asComplex z - 2 ^ p * u‖ ≤ 6 * i) :
    ‖asComplex (rotated p by1 z) - 2 ^ p * (u * w)‖ ≤ 6 * (i + 1 : Nat) := by
  have hpow : (2 : ℝ) ^ 128 ≤ 2 ^ p := pow_le_pow_right₀ (by norm_num) hp
  have hpos : (0 : ℝ) < 2 ^ p := by positivity
  have hpos' : (2 : ℂ) ^ p ≠ 0 := pow_ne_zero _ two_ne_zero
  have hproduct : asComplex (z.1 * by1.1 - z.2 * by1.2, z.2 * by1.1 + z.1 * by1.2) = asComplex z * asComplex by1 := by
    apply Complex.ext <;> simp [asComplex]
    ring
  have hfloor := norm_floor_le (z.1 * by1.1 - z.2 * by1.2) (z.2 * by1.1 + z.1 * by1.2) p
  rw [hproduct] at hfloor
  have hbynorm : ‖asComplex by1‖ ≤ 2 ^ p + 3 := by
    have := norm_le_norm_add_norm_sub (2 ^ p * w) (asComplex by1)
    rw [norm_mul, norm_pow, Complex.norm_ofNat, hw, mul_one, norm_sub_rev] at this
    linarith
  have hexact : ‖asComplex z * asComplex by1 / 2 ^ p - 2 ^ p * (u * w)‖ ≤ 6 * i + 4 := by
    have hsplit : asComplex z * asComplex by1 / 2 ^ p - 2 ^ p * (u * w) =
        (asComplex z - 2 ^ p * u) * asComplex by1 / 2 ^ p + u * (asComplex by1 - 2 ^ p * w) := by
      field_simp
      ring
    have hi' : (i : ℝ) ≤ 192 := by exact_mod_cast hi
    have hfirst : ‖(asComplex z - 2 ^ p * u) * asComplex by1 / 2 ^ p‖ ≤ 6 * i + 1 := by
      rw [norm_div, norm_mul, norm_pow, Complex.norm_ofNat, div_le_iff₀ hpos]
      calc _ ≤ (6 * (i : ℝ)) * (2 ^ p + 3) := by gcongr
        _ ≤ _ := by
          norm_num at hpow
          nlinarith
    rw [hsplit]
    refine (norm_add_le _ _).trans ?_
    rw [norm_mul u, hu, one_mul]
    linarith
  have htotal := norm_sub_le_norm_sub_add_norm_sub (asComplex (rotated p by1 z)) (asComplex z * asComplex by1 / 2 ^ p)
    (2 ^ p * (u * w))
  rw [rotated] at htotal ⊢
  push_cast
  linarith

theorem rotateSum_error {p : Nat} (hp : 128 ≤ p) {by1 : Int × Int} {w : ℂ} (hw : ‖w‖ = 1)
    (hby : ‖asComplex by1 - 2 ^ p * w‖ ≤ 3) : ∀ (xs : List Int) (z : Int × Int) (u : ℂ) (i : Nat), ‖u‖ = 1 →
    i + xs.length ≤ 192 → ‖asComplex z - 2 ^ p * u‖ ≤ 6 * i → (∀ x ∈ xs, |(x : ℝ)| ≤ 32767) →
    ‖asComplex (rotateSum p by1 z xs) - 2 ^ p * (u * polyAt w xs)‖ ≤ 32767 * 1152 * xs.length
  | [], z, u, i, _, _, _, _ => by
    have hzero : asComplex (0, 0) = 0 := by apply Complex.ext <;> simp [asComplex]
    simp [rotateSum, polyAt, hzero]
  | x :: xs, z, u, i, hu, hi, hz, hxs => by
    obtain ⟨hx, hrest⟩ := List.forall_mem_cons.mp hxs
    rw [List.length_cons] at hi
    have hstep := rotated_error hp hu hw hby (by omega) hz
    have ih := rotateSum_error hp hw hby xs (rotated p by1 z) (u * w) (i + 1) (by rw [norm_mul, hu, hw, one_mul])
      (by omega) hstep hrest
    have hsum : asComplex (rotateSum p by1 z (x :: xs)) =
        asComplex (rotateSum p by1 (rotated p by1 z) xs) + (x : ℂ) * asComplex z := by
      rw [rotateSum, rotated]
      apply Complex.ext <;> simp [asComplex]
    have hsplit : asComplex (rotateSum p by1 z (x :: xs)) - 2 ^ p * (u * polyAt w (x :: xs)) =
        (asComplex (rotateSum p by1 (rotated p by1 z) xs) - 2 ^ p * (u * w * polyAt w xs)) +
          (x : ℂ) * (asComplex z - 2 ^ p * u) := by
      rw [hsum, polyAt]
      ring
    have hi' : (i : ℝ) ≤ 192 := by exact_mod_cast (by omega : i ≤ 192)
    have hterm : ‖(x : ℂ) * (asComplex z - 2 ^ p * u)‖ ≤ 32767 * 1152 := by
      rw [norm_mul, Complex.norm_intCast]
      exact mul_le_mul hx (hz.trans (by linarith)) (norm_nonneg _) (by norm_num)
    rw [hsplit, List.length_cons, Nat.cast_succ]
    refine (norm_add_le _ _).trans ?_
    linarith

/-! ## The squared magnitude -/

/-- The root of unity that the rotation steps by. -/
noncomputable def stepRoot (h n : Nat) : ℂ := Complex.exp (stepAngle h n * Complex.I)

theorem norm_stepRoot (h n : Nat) : ‖stepRoot h n‖ = 1 := Complex.norm_exp_ofReal_mul_I _

theorem norm_polyAt_bound {w : ℂ} (hw : ‖w‖ = 1) {xs : List Int} (hlen : xs.length ≤ 192)
    (hxs : ∀ x ∈ xs, |(x : ℝ)| ≤ 32767) : ‖polyAt w xs‖ ≤ 2 ^ 23 := by
  have h1 := norm_polyAt_le hw hxs
  have h2 : (xs.length : ℝ) ≤ 192 := by exact_mod_cast hlen
  linarith

/-- The fixed-point squared magnitude against the exact one (R83). -/
theorem normAt_error {p h : Nat} (hp : 128 ≤ p) (hp' : p ≤ 8192) {xs : List Int} (hn : 2 * h < xs.length)
    (hlen : xs.length ≤ 192) (hxs : ∀ x ∈ xs, |(x : ℝ)| ≤ 32767) :
    |(normAt p h xs : ℝ) - 4 * (2 ^ p) ^ 2 * ‖polyAt (stepRoot h xs.length) xs‖ ^ 2| ≤ 2 ^ (p + 60) := by
  have hturn := turn_error (p := p) hp' hn
  have hstart : ‖asComplex (2 ^ p, 0) - 2 ^ p * (1 : ℂ)‖ ≤ 6 * ((0 : Nat) : ℝ) := by
    have : asComplex (2 ^ p, 0) = 2 ^ p := by
      rw [show (2 : ℂ) ^ p = (((2 : ℝ) ^ p : ℝ) : ℂ) by push_cast; rfl]
      exact Complex.ext (by rw [Complex.ofReal_re, asComplex]; push_cast; rfl)
        (by rw [Complex.ofReal_im, asComplex]; exact Int.cast_zero)
    rw [this, mul_one, sub_self, norm_zero, Nat.cast_zero, mul_zero]
  have hrotate := rotateSum_error hp (norm_stepRoot h xs.length) hturn xs (2 ^ p, 0) 1 0 norm_one (by omega) hstart hxs
  have hbound := norm_polyAt_bound (norm_stepRoot h xs.length) hlen hxs
  have hnorm : (normAt p h xs : ℝ) = 4 * ‖asComplex (rotateSum p (turn p h xs.length) (2 ^ p, 0) xs)‖ ^ 2 := by
    rw [← norm_asComplex_sq, normAt]
    push_cast
    ring
  rw [hnorm, one_mul] at *
  generalize asComplex (rotateSum p (turn p h xs.length) (2 ^ p, 0) xs) = R at hrotate
  generalize polyAt (stepRoot h xs.length) xs = S at hrotate hbound
  have hlen' : (xs.length : ℝ) ≤ 192 := by exact_mod_cast hlen
  have hpow : (2 : ℝ) ^ 128 ≤ 2 ^ p := pow_le_pow_right₀ (by norm_num) hp
  have hclose : |‖R‖ - 2 ^ p * ‖S‖| ≤ 2 ^ 33 := by
    have := abs_norm_sub_norm_le R (2 ^ p * S)
    rw [norm_mul, norm_pow, Complex.norm_ofNat] at this
    exact this.trans (hrotate.trans (by linarith))
  have hS : 0 ≤ ‖S‖ := norm_nonneg S
  have hR : 0 ≤ ‖R‖ := norm_nonneg R
  rw [show 4 * ‖R‖ ^ 2 - 4 * (2 ^ p) ^ 2 * ‖S‖ ^ 2 = 4 * ((‖R‖ - 2 ^ p * ‖S‖) * (‖R‖ + 2 ^ p * ‖S‖)) by ring, abs_mul, abs_mul,
    abs_of_nonneg (by positivity : 0 ≤ ‖R‖ + 2 ^ p * ‖S‖), pow_add, abs_of_pos (by norm_num : (0 : ℝ) < 4)]
  have hplus : ‖R‖ + 2 ^ p * ‖S‖ ≤ 2 ^ p * 2 ^ 25 := by
    have h1 := (abs_le.mp hclose).2
    have h2 : (2 : ℝ) ^ p * ‖S‖ ≤ 2 ^ p * 2 ^ 23 := by gcongr
    generalize (2 : ℝ) ^ p = P at hpow h1 h2 ⊢
    linarith
  calc 4 * (|‖R‖ - 2 ^ p * ‖S‖| * (‖R‖ + 2 ^ p * ‖S‖)) ≤ 4 * (2 ^ 33 * (2 ^ p * 2 ^ 25)) := by gcongr
    _ = 2 ^ p * 2 ^ 60 := by ring

end Sys2Proof.Machine
end

section
/-! The exact test for equality of AMPLITUDE (R83, log 22): lists of coefficients modulo x^m - 1 and their values at the
m-th roots of unity. -/

namespace Sys2Proof.Machine

open Polynomial

/-! ## Lists of coefficients at a complex number -/

theorem polyAt_append (w : ℂ) : ∀ a b : List Int, polyAt w (a ++ b) = polyAt w a + w ^ a.length * polyAt w b
  | [], b => by simp [polyAt]
  | x :: a, b => by
    rw [List.cons_append, polyAt, polyAt, polyAt_append w a b, List.length_cons, pow_succ]
    ring

theorem polyAt_zipWith_sub (w : ℂ) : ∀ a b : List Int, a.length = b.length →
    polyAt w (List.zipWith (· - ·) a b) = polyAt w a - polyAt w b
  | [], [], _ => by simp [polyAt]
  | x :: a, y :: b, h => by
    rw [List.zipWith_cons_cons, polyAt, polyAt, polyAt, polyAt_zipWith_sub w a b (Nat.succ.inj h)]
    push_cast
    ring

theorem polyAt_map_mul (w : ℂ) (k : Int) : ∀ a : List Int, polyAt w (a.map (k * ·)) = k * polyAt w a
  | [] => by simp [polyAt]
  | x :: a => by
    rw [List.map_cons, polyAt, polyAt, polyAt_map_mul w k a]
    push_cast
    ring

theorem polyAt_conj (w : ℂ) : ∀ a : List Int, polyAt (starRingEnd ℂ w) a = starRingEnd ℂ (polyAt w a)
  | [] => by simp [polyAt]
  | x :: a => by
    rw [polyAt, polyAt, polyAt_conj w a, map_add, map_mul, map_intCast]

/-- The polynomial with the given coefficients, lowest first. -/
noncomputable def listPoly : List Int → ℤ[X]
  | [] => 0
  | x :: xs => C x + X * listPoly xs

theorem aeval_listPoly (w : ℂ) : ∀ xs : List Int, aeval w (listPoly xs) = polyAt w xs
  | [] => by simp [listPoly, polyAt]
  | x :: xs => by simp [listPoly, polyAt, aeval_listPoly w xs]

theorem coeff_listPoly (xs : List Int) : ∀ i : Nat, (listPoly xs).coeff i = xs.getD i 0 := by
  induction xs with
  | nil => simp [listPoly]
  | cons x xs ih =>
    intro i
    cases i with
    | zero => simp [listPoly]
    | succ i => rw [listPoly, coeff_add, coeff_C_succ, coeff_X_mul, zero_add, ih, List.getD_cons_succ]

theorem degree_listPoly_lt (xs : List Int) : (listPoly xs).degree < xs.length := by
  rw [degree_lt_iff_coeff_zero]
  intro i hi
  rw [coeff_listPoly, List.getD_eq_default _ _ hi]

/-! ## Coefficients modulo x^m - 1 -/

theorem length_timesShiftLess {k : Nat} {c : List Int} : (timesShiftLess k c).length = c.length := by
  rw [timesShiftLess, List.length_zipWith, List.length_append, List.length_drop, List.length_take]
  omega

/-- A shifted list less the list itself, at a root of unity. -/
theorem polyAt_timesShiftLess {k : Nat} {c : List Int} (hk : k ≤ c.length) {w : ℂ} (hw : w ^ c.length = 1) :
    polyAt w (timesShiftLess k c) = (w ^ k - 1) * polyAt w c := by
  have hshift : polyAt w (c.drop (c.length - k) ++ c.take (c.length - k)) = w ^ k * polyAt w c := by
    have hsplit := polyAt_append w (c.take (c.length - k)) (c.drop (c.length - k))
    rw [List.take_append_drop, List.length_take, min_eq_left (Nat.sub_le _ _)] at hsplit
    rw [polyAt_append, List.length_drop, show c.length - (c.length - k) = k by omega, hsplit, mul_add, ← mul_assoc,
      ← pow_add, show k + (c.length - k) = c.length by omega, hw]
    ring
  rw [timesShiftLess, polyAt_zipWith_sub w _ _ (by
    rw [List.length_append, List.length_drop, List.length_take]
    omega), hshift]
  ring

theorem foldl_timesShiftLess {m : Nat} {w : ℂ} (hw : w ^ m = 1) : ∀ (ps : List Nat) (c : List Int), c.length = m →
    (ps.foldl (fun c p => timesShiftLess (m / p) c) c).length = m ∧
      polyAt w (ps.foldl (fun c p => timesShiftLess (m / p) c) c) = (ps.map (fun p => w ^ (m / p) - 1)).prod * polyAt w c
  | [], c, hc => by simp [hc]
  | p :: ps, c, hc => by
    obtain ⟨hlength, hvalue⟩ := foldl_timesShiftLess hw ps (timesShiftLess (m / p) c) (length_timesShiftLess.trans hc)
    rw [List.foldl_cons, hvalue, polyAt_timesShiftLess (by rw [hc]; exact Nat.div_le_self _ _) (by rw [hc]; exact hw),
      List.map_cons, List.prod_cons]
    exact ⟨hlength, by ring⟩

theorem mem_primeDivisors {m : Nat} (hm : 0 < m) (p : Nat) : p ∈ primeDivisors m ↔ p.Prime ∧ p ∣ m := by
  rw [primeDivisors, List.mem_filter, List.mem_range, Bool.and_eq_true, Bool.and_eq_true, decide_eq_true_eq, decide_eq_true_eq,
    List.all_eq_true, Nat.prime_def_lt]
  constructor
  · rintro ⟨-, ⟨h2, hdvd⟩, hall⟩
    refine ⟨⟨h2, fun d hd hdp => ?_⟩, Nat.dvd_of_mod_eq_zero hdvd⟩
    have := hall d (List.mem_range.mpr hd)
    rw [Bool.or_eq_true, decide_eq_true_eq, decide_eq_true_eq] at this
    have hpos : d ≠ 0 := fun h => by
      rw [h, zero_dvd_iff] at hdp
      omega
    have := this.resolve_right (fun h => h (Nat.mod_eq_zero_of_dvd hdp))
    omega
  · rintro ⟨⟨h2, hall⟩, hdvd⟩
    refine ⟨Nat.lt_succ_of_le (Nat.le_of_dvd hm hdvd), ⟨h2, Nat.mod_eq_zero_of_dvd hdvd⟩, fun d hd => ?_⟩
    rw [Bool.or_eq_true, decide_eq_true_eq, decide_eq_true_eq]
    by_cases hd2 : d < 2
    · exact .inl hd2
    · refine .inr (fun hmod => hd2 ?_)
      have := hall d (List.mem_range.mp hd) (Nat.dvd_of_mod_eq_zero hmod)
      omega

/-- A list of m coefficients that vanishes at every m-th root of unity is zero. -/
theorem all_zero_iff {m : Nat} (hm : 0 < m) {c : List Int} (hc : c.length = m) :
    c.all (fun x => x == 0) = true ↔ ∀ w : ℂ, w ^ m = 1 → polyAt w c = 0 := by
  constructor
  · intro h w _
    rw [List.all_eq_true] at h
    rw [polyAt_eq_sum]
    refine Finset.sum_eq_zero (fun i hi => ?_)
    rw [Finset.mem_range] at hi
    have := h _ (List.getElem_mem hi)
    rw [List.getD_eq_getElem _ _ hi, eq_of_beq this]
    simp
  · intro h
    have hroot := Complex.isPrimitiveRoot_exp m hm.ne'
    have hzero : (listPoly c).map (Int.castRingHom ℂ) = 0 := by
      refine eq_zero_of_degree_lt_of_eval_finset_eq_zero (s := nthRootsFinset m (1 : ℂ)) ?_ (fun w hw => ?_)
      · rw [hroot.card_nthRootsFinset, ← hc]
        exact degree_map_le.trans_lt (degree_listPoly_lt c)
      · rw [mem_nthRootsFinset hm] at hw
        rw [eval_map, ← h w hw, ← aeval_listPoly, aeval_def]
        rfl
    rw [List.all_eq_true]
    intro x hx
    obtain ⟨i, hi, rfl⟩ := List.mem_iff_getElem.mp hx
    have hcoeff := congrArg (fun P : ℂ[X] => P.coeff i) hzero
    simp only [coeff_map, coeff_zero, coeff_listPoly, eq_intCast, Int.cast_eq_zero, List.getD_eq_getElem _ _ hi] at hcoeff
    exact beq_iff_eq.mpr hcoeff

/-- A polynomial zero at one primitive m-th root of unity is zero at all of them. -/
theorem polyAt_primitive_eq_zero {m : Nat} (hm : 0 < m) {ζ w : ℂ} (hζ : IsPrimitiveRoot ζ m) (hw : IsPrimitiveRoot w m)
    {c : List Int} (h : polyAt ζ c = 0) : polyAt w c = 0 := by
  rw [← aeval_listPoly] at h ⊢
  have hdvd := minpoly.isIntegrallyClosed_dvd (hζ.isIntegral hm) h
  rw [← cyclotomic_eq_minpoly hζ hm, cyclotomic_eq_minpoly hw hm] at hdvd
  obtain ⟨q, hq⟩ := hdvd
  rw [hq, map_mul, minpoly.aeval, zero_mul]

/-- An m-th root of unity that is not primitive is a root of some x^(m/p) - 1 with p a prime divisor of m. -/
theorem exists_prime_of_not_primitive {m : Nat} {w : ℂ} (hw : w ^ m = 1) (hn : ¬ IsPrimitiveRoot w m) :
    ∃ p : Nat, p.Prime ∧ p ∣ m ∧ w ^ (m / p) = 1 := by
  have hdvd := orderOf_dvd_of_pow_eq_one hw
  obtain ⟨k, hk⟩ := hdvd
  have hk1 : k ≠ 1 := fun h => hn (by
    have := IsPrimitiveRoot.orderOf w
    rwa [show orderOf w = m by rw [hk, h, mul_one]] at this)
  obtain ⟨p, hp, j, rfl⟩ := Nat.exists_prime_and_dvd hk1
  refine ⟨p, hp, ⟨orderOf w * j, by rw [hk]; ring⟩, ?_⟩
  have hquot : m / p = orderOf w * j := by
    rw [hk, show orderOf w * (p * j) = p * (orderOf w * j) by ring]
    exact Nat.mul_div_cancel_left _ hp.pos
  rw [hquot, pow_mul, pow_orderOf_eq_one, one_pow]

/-- The zero test (log 22): it holds exactly when the polynomial is zero at a primitive m-th root of unity. -/
theorem zeroAtRoots_iff {m : Nat} (hm : 0 < m) {c : List Int} (hc : c.length = m) {ζ : ℂ} (hζ : IsPrimitiveRoot ζ m) :
    zeroAtRoots m c = true ↔ polyAt ζ c = 0 := by
  have hfold := fun w hw => foldl_timesShiftLess (m := m) (w := w) hw (primeDivisors m) c hc
  rw [zeroAtRoots, all_zero_iff hm (hfold 1 (one_pow m)).1]
  constructor
  · intro h
    have hprod := (hfold ζ hζ.pow_eq_one).2.symm.trans (h ζ hζ.pow_eq_one)
    refine (mul_eq_zero.mp hprod).resolve_left (fun hzero => ?_)
    obtain ⟨p, hp, hfactor⟩ := List.mem_map.mp (List.prod_eq_zero_iff.mp hzero)
    obtain ⟨hprime, hdvd⟩ := (mem_primeDivisors hm p).mp hp
    exact hζ.pow_ne_one_of_pos_of_lt (Nat.div_pos (Nat.le_of_dvd hm hdvd) hprime.pos).ne'
      (Nat.div_lt_self hm hprime.one_lt) (sub_eq_zero.mp hfactor)
  · intro h w hw
    rw [(hfold w hw).2]
    by_cases hprim : IsPrimitiveRoot w m
    · rw [polyAt_primitive_eq_zero hm hζ hprim h, mul_zero]
    · obtain ⟨p, hprime, hdvd, hone⟩ := exists_prime_of_not_primitive hw hprim
      rw [List.prod_eq_zero (List.mem_map.mpr ⟨p, (mem_primeDivisors hm p).mpr ⟨hprime, hdvd⟩, sub_eq_zero.mpr hone⟩), zero_mul]

end Sys2Proof.Machine
end

section
/-! The number that the comparison of AMPLITUDE is the sign of (R83, log 22): when it is zero, and how small it can be. -/

namespace Sys2Proof.Machine

open Polynomial Finset

/-! ## Folding and autocorrelation -/

/-- A list built entry by entry, at a complex number. -/
theorem polyAt_map_range (w : ℂ) (f : Nat → Int) (m : Nat) :
    polyAt w ((List.range m).map f) = ∑ i ∈ range m, (f i : ℂ) * w ^ i := by
  rw [polyAt_eq_sum, List.length_map, List.length_range]
  refine sum_congr rfl (fun i hi => ?_)
  rw [List.getD_eq_getElem _ _ (by simpa using hi), List.getElem_map, List.getElem_range]

theorem foldMod_pairs {m : Nat} (hm : 0 < m) {w : ℂ} (hw : w ^ m = 1) : ∀ ps : List (Int × Nat),
    ∑ j ∈ range m, ((sumInt ((ps.filter (fun p => p.2 % m == j)).map Prod.fst) : Int) : ℂ) * w ^ j =
      (ps.map (fun p => (p.1 : ℂ) * w ^ p.2)).sum
  | [] => by simp [sumInt]
  | p :: ps => by
    have hmod : p.2 % m ∈ range m := mem_range.mpr (Nat.mod_lt _ hm)
    have hpow : w ^ p.2 = w ^ (p.2 % m) := by
      conv_lhs => rw [← Nat.mod_add_div p.2 m, pow_add, pow_mul, hw, one_pow, mul_one]
    have hstep : ∀ j, ((sumInt (((p :: ps).filter (fun p => p.2 % m == j)).map Prod.fst) : Int) : ℂ) * w ^ j =
        (if p.2 % m = j then (p.1 : ℂ) * w ^ j else 0) +
          ((sumInt ((ps.filter (fun p => p.2 % m == j)).map Prod.fst) : Int) : ℂ) * w ^ j := fun j => by
      rw [List.filter_cons]
      by_cases hj : p.2 % m = j
      · rw [if_pos (beq_iff_eq.mpr hj), if_pos hj, List.map_cons, sumInt_eq_sum, sumInt_eq_sum, List.sum_cons]
        push_cast
        ring
      · rw [if_neg (fun h => hj (beq_iff_eq.mp h)), if_neg hj, zero_add]
    rw [sum_congr rfl (fun j _ => hstep j), sum_add_distrib, sum_ite_eq, if_pos hmod, foldMod_pairs hm hw ps, List.map_cons,
      List.sum_cons, hpow]

theorem sum_zipIdx (w : ℂ) : ∀ (xs : List Int) (k : Nat),
    ((xs.zipIdx k).map (fun p => (p.1 : ℂ) * w ^ p.2)).sum = w ^ k * polyAt w xs
  | [], k => by simp [polyAt]
  | x :: xs, k => by
    rw [List.zipIdx_cons, List.map_cons, List.sum_cons, sum_zipIdx w xs (k + 1), polyAt, pow_succ]
    ring

theorem length_foldMod (m : Nat) (xs : List Int) : (foldMod m xs).length = m := by
  rw [foldMod, List.length_map, List.length_range]

/-- Folding modulo x^m - 1 keeps the values at the m-th roots of unity. -/
theorem polyAt_foldMod {m : Nat} (hm : 0 < m) {w : ℂ} (hw : w ^ m = 1) (xs : List Int) :
    polyAt w (foldMod m xs) = polyAt w xs := by
  have hsum := sum_zipIdx w xs 0
  rw [pow_zero, one_mul] at hsum
  rw [foldMod, polyAt_map_range, foldMod_pairs hm hw, hsum]

theorem sum_zipWith_mul : ∀ (a b : List Int), a.length = b.length →
    (sumInt (List.zipWith (· * ·) a b) : Int) = ∑ j ∈ range a.length, a.getD j 0 * b.getD j 0
  | [], [], _ => rfl
  | x :: a, y :: b, h => by
    have ih := sum_zipWith_mul a b (Nat.succ.inj h)
    rw [sumInt_eq_sum] at ih ⊢
    rw [List.zipWith_cons_cons, List.sum_cons, ih, List.length_cons, sum_range_succ', add_comm]
    rfl

theorem length_autocorrelation (ys : List Int) : (autocorrelation ys).length = ys.length := by
  rw [autocorrelation, List.length_map, List.length_range]

/-- The autocorrelation is the squared magnitude at the roots of unity. -/
theorem polyAt_autocorrelation {ys : List Int} {w : ℂ} (hw : w ^ ys.length = 1) (hnorm : ‖w‖ = 1) :
    polyAt w (autocorrelation ys) = ((‖polyAt w ys‖ ^ 2 : ℝ) : ℂ) := by
  have hunit : ∀ j : Nat, starRingEnd ℂ w ^ j * w ^ j = 1 := fun j => by
    rw [← mul_pow, mul_comm, Complex.mul_conj, Complex.normSq_eq_norm_sq, hnorm]
    simp
  have hrotate : ∀ j, j ≤ ys.length → polyAt w (ys.drop j ++ ys.take j) = starRingEnd ℂ w ^ j * polyAt w ys := fun j hj => by
    have hsplit := polyAt_append w (ys.take j) (ys.drop j)
    rw [List.take_append_drop, List.length_take, min_eq_left hj] at hsplit
    have hback : starRingEnd ℂ w ^ j = w ^ (ys.length - j) := by
      have h1 : w ^ j * w ^ (ys.length - j) = 1 := by rw [← pow_add, Nat.add_sub_cancel' hj, hw]
      calc starRingEnd ℂ w ^ j = starRingEnd ℂ w ^ j * (w ^ j * w ^ (ys.length - j)) := by rw [h1, mul_one]
        _ = _ := by rw [← mul_assoc, hunit, one_mul]
    rw [polyAt_append, List.length_drop, hsplit, mul_add, ← mul_assoc, hunit, one_mul, hback]
    ring
  have hentry : ∀ e, e < ys.length → ∀ j, j < ys.length →
      (ys.drop e ++ ys.take e).getD j 0 = (ys.drop j ++ ys.take j).getD e 0 := fun e he j hj => by
    rw [← List.rotate_eq_drop_append_take he.le, ← List.rotate_eq_drop_append_take hj.le,
      List.getD_eq_getElem _ _ (by rwa [List.length_rotate]), List.getD_eq_getElem _ _ (by rwa [List.length_rotate]),
      List.getElem_rotate, List.getElem_rotate]
    simp only [Nat.add_comm]
  have hlength : ∀ j, (ys.drop j ++ ys.take j).length = ys.length := fun j => by
    rw [List.length_append, List.length_drop, List.length_take]
    omega
  calc polyAt w (autocorrelation ys)
      = ∑ e ∈ range ys.length, (∑ j ∈ range ys.length,
          ((ys.getD j 0 : Int) : ℂ) * (((ys.drop e ++ ys.take e).getD j 0 : Int) : ℂ)) * w ^ e := by
        rw [autocorrelation, polyAt_map_range]
        refine sum_congr rfl (fun e _ => ?_)
        rw [sum_zipWith_mul ys _ (hlength e).symm]
        push_cast
        rfl
    _ = ∑ j ∈ range ys.length, ((ys.getD j 0 : Int) : ℂ) * ∑ e ∈ range ys.length,
          (((ys.drop j ++ ys.take j).getD e 0 : Int) : ℂ) * w ^ e := by
        simp only [sum_mul, mul_sum]
        rw [sum_comm]
        refine sum_congr rfl (fun j hj => sum_congr rfl (fun e he => ?_))
        rw [hentry e (mem_range.mp he) j (mem_range.mp hj)]
        ring
    _ = ∑ j ∈ range ys.length, ((ys.getD j 0 : Int) : ℂ) * (starRingEnd ℂ w ^ j * polyAt w ys) := by
        refine sum_congr rfl (fun j hj => ?_)
        rw [← hrotate j (mem_range.mp hj).le, polyAt_eq_sum, hlength]
    _ = polyAt (starRingEnd ℂ w) ys * polyAt w ys := by
        rw [polyAt_eq_sum (starRingEnd ℂ w), sum_mul]
        exact sum_congr rfl (fun j _ => by ring)
    _ = ((‖polyAt w ys‖ ^ 2 : ℝ) : ℂ) := by
        rw [polyAt_conj, mul_comm, Complex.mul_conj, Complex.normSq_eq_norm_sq]

/-! ## The number compared -/

/-- The coefficients of the polynomial whose value at a root of unity is 4|S|² - K². -/
def comparedPoly (m : Nat) (xs : List Int) (K : Int) : List Int :=
  ((autocorrelation (foldMod m xs)).map (4 * ·)).modify 0 (· - K ^ 2)

theorem length_comparedPoly (m : Nat) (xs : List Int) (K : Int) : (comparedPoly m xs K).length = m := by
  rw [comparedPoly, List.length_modify, List.length_map, length_autocorrelation, length_foldMod]

theorem polyAt_modify_zero (w : ℂ) (k : Int) {a : List Int} (h : 0 < a.length) :
    polyAt w (a.modify 0 (· - k)) = polyAt w a - k := by
  obtain ⟨x, a, rfl⟩ := List.exists_cons_of_length_pos h
  rw [List.modify_zero_cons, polyAt, polyAt]
  push_cast
  ring

theorem polyAt_comparedPoly {m : Nat} (hm : 0 < m) {w : ℂ} (hw : w ^ m = 1) (xs : List Int) (K : Int) :
    polyAt w (comparedPoly m xs K) = ((4 * ‖polyAt w xs‖ ^ 2 - (K : ℝ) ^ 2 : ℝ) : ℂ) := by
  have hnorm : ‖w‖ = 1 := Complex.norm_eq_one_of_pow_eq_one hw hm.ne'
  rw [comparedPoly, polyAt_modify_zero w (K ^ 2) (by rw [List.length_map, length_autocorrelation, length_foldMod]; exact hm),
    polyAt_map_mul, polyAt_autocorrelation (by rw [length_foldMod]; exact hw) hnorm, polyAt_foldMod hm hw]
  push_cast
  ring

/-- The order of the root of unity that the rotation steps by. -/
theorem stepRoot_primitive {h n : Nat} (hn : 0 < n) : IsPrimitiveRoot (stepRoot h n) (n / Nat.gcd h n) := by
  have hg : 0 < Nat.gcd h n := Nat.gcd_pos_of_pos_right h hn
  have hm : 0 < n / Nat.gcd h n := Nat.div_pos (Nat.le_of_dvd hn (Nat.gcd_dvd_right h n)) hg
  have hroot := Complex.isPrimitiveRoot_exp_of_coprime (h / Nat.gcd h n) (n / Nat.gcd h n) hm.ne' (Nat.coprime_div_gcd_div_gcd hg)
  have hg' : ((Nat.gcd h n : Nat) : ℂ) ≠ 0 := by exact_mod_cast hg.ne'
  have hn' : (n : ℂ) ≠ 0 := by exact_mod_cast hn.ne'
  have hratio : (((h / Nat.gcd h n : Nat) : ℂ) / ((n / Nat.gcd h n : Nat) : ℂ)) = (h : ℂ) / n := by
    rw [Nat.cast_div (Nat.gcd_dvd_left h n) hg', Nat.cast_div (Nat.gcd_dvd_right h n) hg']
    field_simp
  rw [hratio] at hroot
  have hexp : stepRoot h n = Complex.exp (2 * Real.pi * Complex.I * (h / n)) := by
    rw [stepRoot, stepAngle]
    refine congrArg Complex.exp ?_
    push_cast
    ring
  rw [hexp]
  exact hroot

/-- The exact test for equality (log 22). -/
theorem normIs_iff {h : Nat} {xs : List Int} (hn : 0 < xs.length) (k : Nat) : normIs h xs k = true ↔
    4 * ‖polyAt (stepRoot h xs.length) xs‖ ^ 2 - (((k * xs.length : Nat) : Int) : ℝ) ^ 2 = 0 := by
  have hg : 0 < Nat.gcd h xs.length := Nat.gcd_pos_of_pos_right h hn
  have hm : 0 < xs.length / Nat.gcd h xs.length := Nat.div_pos (Nat.le_of_dvd hn (Nat.gcd_dvd_right h _)) hg
  have hroot := stepRoot_primitive (h := h) hn
  have htest := zeroAtRoots_iff hm (length_comparedPoly _ xs ((k * xs.length : Nat) : Int)) hroot
  rw [polyAt_comparedPoly hm hroot.pow_eq_one, Complex.ofReal_eq_zero] at htest
  exact htest

/-! ## The least value that is not zero -/

/-- The product of a polynomial's values at the primitive m-th roots of unity is a norm, an integer. -/
theorem prod_primitive_eq_norm {m : Nat} [NeZero m] (K : Type) [Field K] [Algebra ℚ K] [IsCyclotomicExtension {m} ℚ K]
    (c : List Int) : ∃ z : Int, ∏ w ∈ primitiveRoots m ℂ, polyAt w c = z := by
  have hm : 0 < m := NeZero.pos m
  have hfinite : FiniteDimensional ℚ K := IsCyclotomicExtension.finiteDimensional {m} ℚ K
  have hζ : IsPrimitiveRoot (IsCyclotomicExtension.zeta m ℚ K) m := IsCyclotomicExtension.zeta_spec m ℚ K
  have hirr := cyclotomic.irreducible_rat hm
  have hint : IsIntegral ℤ (aeval (IsCyclotomicExtension.zeta m ℚ K) (listPoly c)) :=
    adjoin_le_integralClosure (hζ.isIntegral hm) (aeval_mem_adjoin_singleton ℤ _)
  obtain ⟨z, hz⟩ := IsIntegrallyClosed.isIntegral_iff.mp (Algebra.isIntegral_norm ℚ hint)
  refine ⟨z, ?_⟩
  have hnorm := Algebra.norm_eq_prod_embeddings ℚ ℂ (aeval (IsCyclotomicExtension.zeta m ℚ K) (listPoly c))
  rw [← hz] at hnorm
  have hprod : ∏ σ : K →ₐ[ℚ] ℂ, σ (aeval (IsCyclotomicExtension.zeta m ℚ K) (listPoly c)) =
      ∏ w : primitiveRoots m ℂ, polyAt w c :=
    Fintype.prod_equiv (hζ.embeddingsEquivPrimitiveRoots ℂ hirr) _ _ (fun σ => by
      rw [IsPrimitiveRoot.embeddingsEquivPrimitiveRoots_apply_coe, ← aeval_listPoly]
      exact (aeval_algHom_apply (σ.restrictScalars ℤ) _ _).symm)
  rw [hprod, prod_coe_sort (primitiveRoots m ℂ) (fun w => polyAt w c)] at hnorm
  rw [← hnorm]
  simp

theorem prod_primitive_eq_int {m : Nat} (hm : 0 < m) (c : List Int) :
    ∃ z : Int, ∏ w ∈ primitiveRoots m ℂ, polyAt w c = z := by
  have hne : NeZero m := ⟨hm.ne'⟩
  have hneq : NeZero ((m : Nat) : ℚ) := ⟨by exact_mod_cast hm.ne'⟩
  exact @prod_primitive_eq_norm m hne (CyclotomicField m ℚ) _ (CyclotomicField.algebra m ℚ)
    (CyclotomicField.isCyclotomicExtension m ℚ) c

/-- A value at a primitive m-th root of unity that is not zero is no smaller than the others allow (log 22). -/
theorem one_le_norm_sq_mul {m : Nat} (hm : 3 ≤ m) {ζ : ℂ} (hζ : IsPrimitiveRoot ζ m) {c : List Int} (h : polyAt ζ c ≠ 0)
    {B : ℝ} (hB1 : 1 ≤ B) (hB : ∀ w : ℂ, w ^ m = 1 → ‖polyAt w c‖ ≤ B) : 1 ≤ ‖polyAt ζ c‖ ^ 2 * B ^ m := by
  have hpos : 0 < m := by omega
  have hmem : ∀ {w : ℂ}, w ∈ primitiveRoots m ℂ ↔ IsPrimitiveRoot w m := mem_primitiveRoots hpos
  have hconj : IsPrimitiveRoot (starRingEnd ℂ ζ) m := hζ.map_of_injective (starRingEnd ℂ).injective
  have hne : starRingEnd ℂ ζ ≠ ζ := fun he => by
    have hinv : ζ * ζ = 1 := by
      have hnorm : ‖ζ‖ = 1 := Complex.norm_eq_one_of_pow_eq_one hζ.pow_eq_one hpos.ne'
      conv_lhs => rw [← he]
      rw [he, mul_comm]
      have := Complex.mul_conj ζ
      rw [he, Complex.normSq_eq_norm_sq, hnorm] at this
      simpa using this
    exact hζ.pow_ne_one_of_pos_of_lt two_ne_zero (by omega) (by rw [pow_two, hinv])
  obtain ⟨z, hz⟩ := prod_primitive_eq_int hpos c
  have hprod : ∏ w ∈ primitiveRoots m ℂ, polyAt w c ≠ 0 := prod_ne_zero_iff.mpr (fun w hw hzero =>
    h (polyAt_primitive_eq_zero hpos (hmem.mp hw) hζ hzero))
  have hone : 1 ≤ ∏ w ∈ primitiveRoots m ℂ, ‖polyAt w c‖ := by
    rw [← norm_prod, hz, Complex.norm_intCast]
    have hz0 : z ≠ 0 := fun h0 => hprod (by rw [hz, h0]; simp)
    exact_mod_cast Int.one_le_abs hz0
  have hsplit : ∏ w ∈ primitiveRoots m ℂ, ‖polyAt w c‖ = ‖polyAt ζ c‖ * (‖polyAt ζ c‖ *
      ∏ w ∈ ((primitiveRoots m ℂ).erase ζ).erase (starRingEnd ℂ ζ), ‖polyAt w c‖) := by
    rw [← mul_prod_erase _ _ (hmem.mpr hζ), ← mul_prod_erase _ _ (mem_erase.mpr ⟨hne, hmem.mpr hconj⟩), polyAt_conj,
      RCLike.norm_conj]
  have hrest : ∏ w ∈ ((primitiveRoots m ℂ).erase ζ).erase (starRingEnd ℂ ζ), ‖polyAt w c‖ ≤ B ^ m := by
    calc _ ≤ ∏ w ∈ ((primitiveRoots m ℂ).erase ζ).erase (starRingEnd ℂ ζ), B :=
          prod_le_prod (fun _ _ => norm_nonneg _) (fun w hw =>
            hB w (hmem.mp (mem_of_mem_erase (mem_of_mem_erase hw))).pow_eq_one)
      _ = B ^ (((primitiveRoots m ℂ).erase ζ).erase (starRingEnd ℂ ζ)).card := prod_const B
      _ ≤ B ^ m := pow_le_pow_right₀ hB1 (by
          refine (card_le_card ((erase_subset _ _).trans (erase_subset _ _))).trans ?_
          rw [hζ.card_primitiveRoots]
          exact Nat.totient_le m)
  calc (1 : ℝ) ≤ _ := hone
    _ = ‖polyAt ζ c‖ ^ 2 * ∏ w ∈ ((primitiveRoots m ℂ).erase ζ).erase (starRingEnd ℂ ζ), ‖polyAt w c‖ := by
      rw [hsplit]
      ring
    _ ≤ _ := by gcongr

end Sys2Proof.Machine
end

section
/-! AMPLITUDE is the integer part of the exact value (R80, R83, log 22). -/

namespace Sys2Proof.Machine

/-! ## The search -/

/-- A search over a predicate that holds exactly up to K finds K. -/
theorem searchMax_eq {p : Nat → Bool} {K : Nat} : ∀ (bits acc : Nat), acc ≤ K → K < acc + 2 ^ bits →
    (∀ k : Nat, k < acc + 2 ^ bits → (p k = true ↔ k ≤ K)) → searchMax p bits acc = K
  | 0, acc, hlo, hhi, _ => by
    rw [pow_zero] at hhi
    rw [searchMax]
    omega
  | b + 1, acc, hlo, hhi, hp => by
    have hpos : 0 < 2 ^ b := by positivity
    rw [pow_succ] at hhi hp
    have hmid := hp (acc + 2 ^ b) (by omega)
    rw [searchMax]
    by_cases hK : acc + 2 ^ b ≤ K
    · rw [if_pos (hmid.mpr hK)]
      exact searchMax_eq b (acc + 2 ^ b) hK (by omega) (fun k hk => hp k (by omega))
    · rw [if_neg (fun h => hK (hmid.mp h))]
      exact searchMax_eq b acc hlo (by omega) (fun k hk => hp k (by omega))

/-! ## The comparison -/

/-- The exact number whose sign says whether k times the length is at most twice the magnitude (R83). -/
noncomputable def compared (h : Nat) (xs : List Int) (k : Nat) : ℝ :=
  4 * ‖polyAt (stepRoot h xs.length) xs‖ ^ 2 - (((k * xs.length : Nat) : Int) : ℝ) ^ 2

/-- What the statement about AMPLITUDE assumes of the order and the samples (R83). -/
structure Measurable (h : Nat) (xs : List Int) : Prop where
  order : 1 ≤ h
  below : 2 * h < xs.length
  length : xs.length ≤ 192
  samples : ∀ x ∈ xs, |(x : ℝ)| ≤ 32767

namespace Measurable

variable {h : Nat} {xs : List Int} {k : Nat}

/-- The fixed-point comparison against the exact one. -/
theorem diff_error (hm : Measurable h xs) {p : Nat} (hp : 128 ≤ p) (hp' : p ≤ 8192) (k : Nat) :
    |((normAt p h xs - ((k * xs.length : Nat) : Int) ^ 2 * 2 ^ (2 * p) : Int) : ℝ) - (2 ^ p) ^ 2 * compared h xs k| ≤
      2 ^ (p + 60) := by
  have herror := normAt_error hp hp' hm.below hm.length hm.samples
  have hsame : ((normAt p h xs - ((k * xs.length : Nat) : Int) ^ 2 * 2 ^ (2 * p) : Int) : ℝ) - (2 ^ p) ^ 2 * compared h xs k =
      (normAt p h xs : ℝ) - 4 * (2 ^ p) ^ 2 * ‖polyAt (stepRoot h xs.length) xs‖ ^ 2 := by
    rw [compared, Int.cast_sub, Int.cast_mul, Int.cast_pow, Int.cast_pow, Int.cast_ofNat, mul_comm 2 p, pow_mul]
    ring
  rw [hsame]
  exact herror

/-- Where the number compared is not zero it is not too small either (log 22). -/
theorem compared_least (hm : Measurable h xs) (hk : k < 2 ^ 17) (hne : compared h xs k ≠ 0) :
    1 ≤ |compared h xs k| * 2 ^ 4800 := by
  obtain ⟨horder, hbelow, hlength, hsamples⟩ := hm
  have hn : 0 < xs.length := by omega
  have hg : 0 < Nat.gcd h xs.length := Nat.gcd_pos_of_pos_right h hn
  have hgh : Nat.gcd h xs.length ≤ h := Nat.gcd_le_left _ horder
  have hm3 : 3 ≤ xs.length / Nat.gcd h xs.length := by
    rw [Nat.le_div_iff_mul_le hg]
    have hdvd := Nat.gcd_dvd_right h xs.length
    obtain ⟨j, hj⟩ := hdvd
    have hj3 : 3 ≤ j := by
      by_contra hlt
      have : j ≤ 2 := by omega
      have := Nat.mul_le_mul hgh this
      omega
    calc 3 * Nat.gcd h xs.length ≤ j * Nat.gcd h xs.length := Nat.mul_le_mul_right _ hj3
      _ = xs.length := by rw [mul_comm, ← hj]
  have hm192 : xs.length / Nat.gcd h xs.length ≤ 192 := (Nat.div_le_self _ _).trans hlength
  have hroot := stepRoot_primitive (h := h) hn
  generalize hmdef : xs.length / Nat.gcd h xs.length = m at hm3 hm192 hroot
  have hm0 : 0 < m := by omega
  have hvalue := fun w hw => polyAt_comparedPoly hm0 (w := w) hw xs ((k * xs.length : Nat) : Int)
  have hK : (((k * xs.length : Nat) : Int) : ℝ) ^ 2 ≤ 2 ^ 50 := by
    have h1 : k * xs.length ≤ 2 ^ 17 * 192 := Nat.mul_le_mul hk.le hlength
    have h2 : (((k * xs.length : Nat) : Int) : ℝ) ≤ 2 ^ 17 * 192 := by exact_mod_cast h1
    have h0 : (0 : ℝ) ≤ (((k * xs.length : Nat) : Int) : ℝ) := by positivity
    calc _ ≤ ((2 : ℝ) ^ 17 * 192) ^ 2 := by gcongr
      _ ≤ _ := by norm_num
  have hbound : ∀ w : ℂ, w ^ m = 1 → ‖polyAt w (comparedPoly m xs ((k * xs.length : Nat) : Int))‖ ≤ 2 ^ 50 := fun w hw => by
    have hS := norm_polyAt_bound (Complex.norm_eq_one_of_pow_eq_one hw hm0.ne') hlength hsamples
    have hsq : 4 * ‖polyAt w xs‖ ^ 2 ≤ 2 ^ 50 := by
      calc 4 * ‖polyAt w xs‖ ^ 2 ≤ 4 * (2 ^ 23) ^ 2 := by gcongr
        _ ≤ _ := by norm_num
    rw [hvalue w hw, Complex.norm_real, Real.norm_eq_abs, abs_le]
    constructor <;> linarith [sq_nonneg ‖polyAt w xs‖, sq_nonneg (((k * xs.length : Nat) : Int) : ℝ)]
  have hζ := hvalue (stepRoot h xs.length) hroot.pow_eq_one
  have hnorm : ‖polyAt (stepRoot h xs.length) (comparedPoly m xs ((k * xs.length : Nat) : Int))‖ = |compared h xs k| := by
    rw [hζ, Complex.norm_real, Real.norm_eq_abs]
    rfl
  have hleast := one_le_norm_sq_mul hm3 hroot (fun h0 => hne (by rw [← abs_eq_zero, ← hnorm, h0, norm_zero]))
    (by norm_num) hbound
  rw [hnorm] at hleast
  have hpow : ((2 : ℝ) ^ 50) ^ m ≤ (2 ^ 4800) ^ 2 := by
    rw [← pow_mul, ← pow_mul]
    exact pow_le_pow_right₀ (by norm_num) (by omega)
  have hsq : 1 ≤ (|compared h xs k| * 2 ^ 4800) ^ 2 := by
    rw [mul_pow]
    exact hleast.trans (by gcongr)
  exact (one_le_sq_iff₀ (by positivity)).mp hsq

end Measurable

/-- A comparison fine enough for the number compared has its sign. -/
theorem sign_of_fine {p : Nat} (hp : 4861 ≤ p) {a D : ℝ} (hD : 1 ≤ |D| * 2 ^ 4800)
    (ha : |a - (2 ^ p) ^ 2 * D| ≤ 2 ^ (p + 60)) : 0 ≤ a ↔ 0 ≤ D := by
  obtain ⟨j, rfl⟩ : ∃ j, p = 4861 + j := ⟨p - 4861, by omega⟩
  have hlarge : 2 ^ (4861 + j + 60) * 2 ≤ ((2 : ℝ) ^ (4861 + j)) ^ 2 * |D| := by
    have hsplit : ((2 : ℝ) ^ (4861 + j)) ^ 2 = 2 ^ (4861 + j + 60) * 2 ^ (1 + j) * 2 ^ 4800 := by
      rw [← pow_mul, ← pow_add, ← pow_add]
      congr 1
      omega
    have htwo : (2 : ℝ) ≤ 2 ^ (1 + j) := by
      rw [pow_add, pow_one]
      linarith [one_le_pow₀ (a := (2 : ℝ)) (n := j) (by norm_num)]
    rw [hsplit, mul_assoc, mul_comm (2 ^ 4800)]
    calc (2 : ℝ) ^ (4861 + j + 60) * 2 ≤ 2 ^ (4861 + j + 60) * 2 ^ (1 + j) := by gcongr
      _ ≤ 2 ^ (4861 + j + 60) * 2 ^ (1 + j) * (|D| * 2 ^ 4800) := le_mul_of_one_le_right (by positivity) hD
  have hpos : (0 : ℝ) < 2 ^ (4861 + j + 60) := by positivity
  generalize (2 : ℝ) ^ (4861 + j + 60) = E at ha hlarge hpos
  generalize ((2 : ℝ) ^ (4861 + j)) ^ 2 = P at ha hlarge
  rw [abs_le] at ha
  constructor
  · intro h0
    by_contra hneg
    rw [abs_of_neg (not_le.mp hneg)] at hlarge
    linarith [ha.1, ha.2]
  · intro h0
    rw [abs_of_nonneg h0] at hlarge
    linarith [ha.1, ha.2]

/-- A comparison beyond its margin has the sign of the number compared. -/
theorem sign_of_margin {a D : ℝ} (ha : |a - (2 ^ 128) ^ 2 * D| ≤ 2 ^ (128 + 60)) :
    (2 ^ (128 + 64) < a → 0 ≤ D) ∧ (a < -2 ^ (128 + 64) → ¬ 0 ≤ D) := by
  rw [abs_le] at ha
  have hpow : (2 : ℝ) ^ (128 + 60) ≤ 2 ^ (128 + 64) := pow_le_pow_right₀ (by norm_num) (by norm_num)
  have hpos : (0 : ℝ) < (2 ^ 128) ^ 2 := by positivity
  generalize ((2 : ℝ) ^ 128) ^ 2 = P at ha hpos
  generalize (2 : ℝ) ^ (128 + 60) = E at ha hpow
  generalize (2 : ℝ) ^ (128 + 64) = M at hpow ⊢
  refine ⟨fun h => ?_, fun h h0 => ?_⟩
  · by_contra hneg
    have := mul_neg_of_pos_of_neg hpos (not_le.mp hneg)
    linarith [ha.1, ha.2]
  · have := mul_nonneg hpos.le h0
    linarith [ha.1, ha.2]

/-- The comparison is exact (log 22). -/
theorem amplitudeAtLeast_iff {h : Nat} {xs : List Int} (hm : Measurable h xs) {k : Nat} (hk : k < 2 ^ 17) :
    amplitudeAtLeast h xs (normAt lowPrecision h xs) k = true ↔ 0 ≤ compared h xs k := by
  have hlow := sign_of_margin (hm.diff_error (p := lowPrecision) (by decide) (by decide) k)
  have hzero := normIs_iff (h := h) (xs := xs) (by have := hm.below; omega) k
  have hhigh := fun hne => sign_of_fine (p := highPrecision) (by decide) (hm.compared_least hk hne)
    (hm.diff_error (p := highPrecision) (by decide) (by decide) k)
  rw [Int.cast_nonneg_iff] at hhigh
  unfold amplitudeAtLeast
  dsimp only
  split
  next hbig => exact iff_of_true rfl (hlow.1 (by exact_mod_cast hbig))
  next =>
    split
    next hsmall => exact iff_of_false Bool.false_ne_true (hlow.2 (by exact_mod_cast hsmall))
    next =>
      split
      next heq => exact iff_of_true rfl (hzero.mp heq).ge
      next hne => exact decide_eq_true_iff.trans (hhigh (fun h0 => hne (hzero.mpr h0)))

/-- AMPLITUDE is the integer part of twice the magnitude over the length (R83). -/
theorem amplitudeOf_eq_floor {h : Nat} {xs : List Int} (hm : Measurable h xs) :
    amplitudeOf h xs = ⌊2 / (xs.length : ℝ) * ‖polyAt (stepRoot h xs.length) xs‖⌋₊ := by
  have hn : (0 : ℝ) < xs.length := by exact_mod_cast (by have := hm.below; omega : 0 < xs.length)
  have hbound := norm_polyAt_le (norm_stepRoot h xs.length) hm.samples
  have hcompared : ∀ k : Nat, 0 ≤ compared h xs k ↔ k ≤ ⌊2 / (xs.length : ℝ) * ‖polyAt (stepRoot h xs.length) xs‖⌋₊ := fun k => by
    have hK : (((k * xs.length : Nat) : Int) : ℝ) = k * xs.length := by push_cast; rfl
    rw [Nat.le_floor_iff (by positivity), compared, hK, sub_nonneg,
      show 4 * ‖polyAt (stepRoot h xs.length) xs‖ ^ 2 = (2 * ‖polyAt (stepRoot h xs.length) xs‖) ^ 2 by ring,
      sq_le_sq₀ (by positivity) (by positivity), div_mul_eq_mul_div, le_div_iff₀ hn]
  refine searchMax_eq 17 0 (Nat.zero_le _) ?_ (fun k hk => (amplitudeAtLeast_iff hm (by omega)).trans (hcompared k))
  rw [zero_add, Nat.floor_lt (by positivity), div_mul_eq_mul_div, div_lt_iff₀ hn]
  push_cast
  linarith

/-- The complex sum of R83, with its rotation the other way about. -/
theorem polyAt_conj_stepRoot (h : Nat) (xs : List Int) : polyAt (starRingEnd ℂ (stepRoot h xs.length)) xs =
    ∑ i ∈ Finset.range xs.length, ((xs.getD i 0 : Int) : ℂ) *
      Complex.exp (-((2 * Real.pi * h * i / xs.length : ℝ) : ℂ) * Complex.I) := by
  rw [polyAt_eq_sum]
  refine Finset.sum_congr rfl (fun i _ => congrArg (((xs.getD i 0 : Int) : ℂ) * ·) ?_)
  rw [stepRoot, ← Complex.exp_conj, ← Complex.exp_nat_mul, map_mul, Complex.conj_ofReal, Complex.conj_I, stepAngle]
  refine congrArg Complex.exp ?_
  push_cast
  ring

/-- Settles O26: the search finds the integer part, for the comparison it makes is exact. -/
theorem amplitudeIsExact : Obligations.AmplitudeIsExact := by
  intro h xs horder hbelow hlength hsamples n component value
  have hm : Measurable h xs := ⟨horder, hbelow, hlength, fun x hx => by
    obtain ⟨hlo, hhi⟩ := hsamples x hx
    exact abs_le.mpr ⟨by exact_mod_cast hlo, by exact_mod_cast hhi⟩⟩
  have hcomponent : component = starRingEnd ℂ (polyAt (stepRoot h xs.length) xs) :=
    (polyAt_conj_stepRoot h xs).symm.trans (polyAt_conj _ _)
  have hvalue : value = 2 / (xs.length : ℝ) * ‖polyAt (stepRoot h xs.length) xs‖ := by
    show 2 / n * ‖component‖ = _
    rw [hcomponent, RCLike.norm_conj]
  rw [hvalue, amplitudeOf_eq_floor hm]
  exact ⟨Nat.floor_le (by positivity), Nat.lt_floor_add_one _⟩

end Sys2Proof.Machine
end
